-- ==== Sys2Proof/Word.lean ====
section
/-! DEFINITION. The two word types of the machine (00_scope.md R6, R9). Every helper that cuts or joins
words stands in Machine/Bytes.lean. -/

namespace Sys2Proof

/-- A byte: a value 0..255 (R9). -/
abbrev Byte := BitVec 8

/-- A word: a value 0..65535 (R9); also an address (R6: 16 bits). -/
abbrev Word := BitVec 16

end Sys2Proof
end

