-- ==== Sys2Proof/Machine/Bytes.lean ====
section
/-! DEFINITION. Cutting and joining words: `hi`, `lo`, `hi:lo`, `sext_8` and `Byte`/`Word` of 00_scope.md R9,
and the bit-numbered fields of an opcode byte (30_encoding.md R123). -/

namespace Sys2Proof

/-- `hi(w)` = w[15:8] (R9). -/
def hiByte (w : Word) : Byte := BitVec.ofNat 8 (w.toNat / 256)

/-- `lo(w)` = w[7:0] (R9). -/
def loByte (w : Word) : Byte := BitVec.ofNat 8 w.toNat

/-- `h:l`, the word h·256 + l (R9); also how an immediate `lo hi` is assembled (R136). -/
def wordOf (h l : Byte) : Word := BitVec.ofNat 16 (h.toNat * 256 + l.toNat)

/-- `sext_8(d)` as a word: d if d < 128, else d − 256, modulo 65536 (R9). -/
def sext8 (d : Byte) : Word := d.signExtend 16

/-- `zext_16(b)` (R9). -/
def zext16 (b : Byte) : Word := b.setWidth 16

/-- The field x = op[7:6] (R123). -/
def fieldX (op : Byte) : BitVec 2 := op.extractLsb' 6 2

/-- The field y = op[5:3] (R123); the bit number of the 0xCB page (R141). -/
def fieldY (op : Byte) : BitVec 3 := op.extractLsb' 3 3

/-- The field z = op[2:0] (R123); the operand selector (R130). -/
def fieldZ (op : Byte) : BitVec 3 := op.extractLsb' 0 3

/-- One of eight values, selected by a 3-bit field in the order 0 to 7. -/
def sel8 {α : Type} (n : BitVec 3) (x0 x1 x2 x3 x4 x5 x6 x7 : α) : α :=
  match n.toNat with
  | 0 => x0
  | 1 => x1
  | 2 => x2
  | 3 => x3
  | 4 => x4
  | 5 => x5
  | 6 => x6
  | _ => x7

/-- One of four values, selected by a 2-bit field in the order 0 to 3. -/
def sel4 {α : Type} (n : BitVec 2) (x0 x1 x2 x3 : α) : α :=
  match n.toNat with
  | 0 => x0
  | 1 => x1
  | 2 => x2
  | _ => x3

end Sys2Proof
end

