-- ==== Sys2Proof/Syntax.lean ====
section
/-! DEFINITION. The instruction syntax: one constructor per row of spec/opcode_table.json, and the names its
operands range over. A constructor is its row's mnemonic in small letters, a memory operand (X) written atX. The rows
with an operand stand first: Lean's runtime gives a constructor that carries data a tag below 245. -/

namespace Sys2Proof

/-- The 8-bit registers of the operand selector, in its order but for (HL) (30_encoding.md R130). -/
inductive Reg8
  | b | c | d | e | h | l | a
  deriving DecidableEq, Repr

/-- The 16-bit registers and pair views (10_state.md R33, R40, R42). -/
inductive Reg16
  | bc | de | hl | sp | af | ix | iy
  deriving DecidableEq, Repr

/-- The two index registers, each with its prefix byte: IX 0xDD, IY 0xFD (R143). -/
inductive IdxReg
  | ix | iy
  deriving DecidableEq, Repr

/-- The values of `Config.idxAddPair` (00_scope.md R7); `self` is the table's IXself. -/
inductive IdxPair
  | bc | de | self | sp
  deriving DecidableEq, Repr

/-- The rotate-accumulator instructions, of which a configuration admits two (R7, R151). -/
inductive RotOp
  | rlca | rrca | rla | rra
  deriving DecidableEq, Repr

/-- The admitted conditions (R133). -/
inductive Cond
  | nz | z | nc | c
  deriving DecidableEq, Repr

/-- The 8-bit ALU operations, in the order of the ALU field (R134). -/
inductive AluOp
  | add | adc | sub | sbc | and | xor | or | cp
  deriving DecidableEq, Repr

/-- The six meaningful flags (10_state.md R35). -/
inductive Flag
  | s | z | h | pv | n | c
  deriving DecidableEq, Repr

/-- The admitted instructions. `n`: an immediate byte; `nn`: an immediate word or a direct address; `e`, `d`: a
displacement byte, its sign taken when it is used (R136). -/
inductive Instr
  -- R204
  | ld_b_n (n : Byte) | ld_c_n (n : Byte) | ld_d_n (n : Byte) | ld_e_n (n : Byte) | ld_h_n (n : Byte)
  | ld_l_n (n : Byte)
  -- R205
  | ld_atHL_n (n : Byte)
  -- R204
  | ld_a_n (n : Byte)
  -- R210
  | ld_bc_nn (nn : Word) | ld_de_nn (nn : Word) | ld_hl_nn (nn : Word)
  -- R211
  | ld_sp_nn (nn : Word)
  -- R216
  | ld_a_atNN (nn : Word)
  -- R217
  | ld_atNN_a (nn : Word)
  -- R218
  | ld_hl_atNN (nn : Word)
  -- R219
  | ld_atNN_hl (nn : Word)
  -- R272
  | add_a_n (n : Byte)
  -- R275
  | adc_a_n (n : Byte)
  -- R278
  | sub_n (n : Byte)
  -- R281
  | sbc_a_n (n : Byte)
  -- R284
  | and_n (n : Byte)
  -- R287
  | xor_n (n : Byte)
  -- R290
  | or_n (n : Byte)
  -- R293
  | cp_n (n : Byte)
  -- R332
  | jp_nn (nn : Word)
  -- R333
  | jp_nz_nn (nn : Word) | jp_z_nn (nn : Word) | jp_nc_nn (nn : Word) | jp_c_nn (nn : Word)
  -- R334
  | jr_e (e : Byte)
  -- R335
  | jr_nz_e (e : Byte) | jr_z_e (e : Byte) | jr_nc_e (e : Byte) | jr_c_e (e : Byte)
  -- R336
  | djnz_e (e : Byte)
  -- R337
  | call_nn (nn : Word)
  -- R338
  | call_nz_nn (nn : Word) | call_z_nn (nn : Word) | call_nc_nn (nn : Word) | call_c_nn (nn : Word)
  -- R391
  | ld_bc_atNN (nn : Word)
  -- R392
  | ld_de_atNN (nn : Word)
  -- R393
  | ld_atNN_bc (nn : Word)
  -- R394
  | ld_atNN_de (nn : Word)
  -- R395
  | ld_sp_atNN (nn : Word)
  -- R396
  | ld_atNN_sp (nn : Word)
  -- R411
  | ld_ix_nn (nn : Word)
  -- R414
  | ld_b_atIX (d : Byte) | ld_c_atIX (d : Byte) | ld_d_atIX (d : Byte) | ld_e_atIX (d : Byte)
  | ld_h_atIX (d : Byte) | ld_l_atIX (d : Byte) | ld_a_atIX (d : Byte)
  -- R411
  | ld_iy_nn (nn : Word)
  -- R414
  | ld_b_atIY (d : Byte) | ld_c_atIY (d : Byte) | ld_d_atIY (d : Byte) | ld_e_atIY (d : Byte)
  | ld_h_atIY (d : Byte) | ld_l_atIY (d : Byte) | ld_a_atIY (d : Byte)
  -- R200
  | nop
  -- R201
  | ld_b_b | ld_b_c | ld_b_d | ld_b_e | ld_b_h | ld_b_l
  -- R202
  | ld_b_atHL
  -- R201
  | ld_b_a | ld_c_b | ld_c_c | ld_c_d | ld_c_e | ld_c_h | ld_c_l
  -- R202
  | ld_c_atHL
  -- R201
  | ld_c_a | ld_d_b | ld_d_c | ld_d_d | ld_d_e | ld_d_h | ld_d_l
  -- R202
  | ld_d_atHL
  -- R201
  | ld_d_a | ld_e_b | ld_e_c | ld_e_d | ld_e_e | ld_e_h | ld_e_l
  -- R202
  | ld_e_atHL
  -- R201
  | ld_e_a | ld_h_b | ld_h_c | ld_h_d | ld_h_e | ld_h_h | ld_h_l
  -- R202
  | ld_h_atHL
  -- R201
  | ld_h_a | ld_l_b | ld_l_c | ld_l_d | ld_l_e | ld_l_h | ld_l_l
  -- R202
  | ld_l_atHL
  -- R201
  | ld_l_a
  -- R203
  | ld_atHL_b | ld_atHL_c | ld_atHL_d | ld_atHL_e | ld_atHL_h | ld_atHL_l | ld_atHL_a
  -- R201
  | ld_a_b | ld_a_c | ld_a_d | ld_a_e | ld_a_h | ld_a_l
  -- R202
  | ld_a_atHL
  -- R201
  | ld_a_a
  -- R212
  | ld_a_atBC
  -- R213
  | ld_a_atDE
  -- R214
  | ld_atBC_a
  -- R215
  | ld_atDE_a
  -- R230
  | push_bc | push_de | push_hl
  -- R232
  | push_af
  -- R234
  | pop_bc | pop_de | pop_hl
  -- R236
  | pop_af
  -- R240
  | ex_de_hl
  -- R270
  | add_a_b | add_a_c | add_a_d | add_a_e | add_a_h | add_a_l
  -- R271
  | add_a_atHL
  -- R270
  | add_a_a
  -- R273
  | adc_a_b | adc_a_c | adc_a_d | adc_a_e | adc_a_h | adc_a_l
  -- R274
  | adc_a_atHL
  -- R273
  | adc_a_a
  -- R276
  | sub_b | sub_c | sub_d | sub_e | sub_h | sub_l
  -- R277
  | sub_atHL
  -- R276
  | sub_a
  -- R279
  | sbc_a_b | sbc_a_c | sbc_a_d | sbc_a_e | sbc_a_h | sbc_a_l
  -- R280
  | sbc_a_atHL
  -- R279
  | sbc_a_a
  -- R282
  | and_b | and_c | and_d | and_e | and_h | and_l
  -- R283
  | and_atHL
  -- R282
  | and_a
  -- R285
  | xor_b | xor_c | xor_d | xor_e | xor_h | xor_l
  -- R286
  | xor_atHL
  -- R285
  | xor_a
  -- R288
  | or_b | or_c | or_d | or_e | or_h | or_l
  -- R289
  | or_atHL
  -- R288
  | or_a
  -- R291
  | cp_b | cp_c | cp_d | cp_e | cp_h | cp_l
  -- R292
  | cp_atHL
  -- R291
  | cp_a
  -- R295
  | add_hl_bc | add_hl_de | add_hl_hl | add_hl_sp
  -- R300
  | inc_b
  -- R302
  | dec_b
  -- R300
  | inc_c
  -- R302
  | dec_c
  -- R300
  | inc_d
  -- R302
  | dec_d
  -- R300
  | inc_e
  -- R302
  | dec_e
  -- R300
  | inc_h
  -- R302
  | dec_h
  -- R300
  | inc_l
  -- R302
  | dec_l
  -- R301
  | inc_atHL
  -- R303
  | dec_atHL
  -- R300
  | inc_a
  -- R302
  | dec_a
  -- R304
  | inc_bc
  -- R305
  | dec_bc
  -- R304
  | inc_de
  -- R305
  | dec_de
  -- R304
  | inc_hl
  -- R305
  | dec_hl
  -- R304
  | inc_sp
  -- R305
  | dec_sp
  -- R310
  | rlca
  -- R311
  | rrca
  -- R312
  | rla
  -- R313
  | rra
  -- R339
  | ret
  -- R340
  | ret_nz | ret_z | ret_nc | ret_c
  -- R341
  | rst_00 | rst_08 | rst_10 | rst_18 | rst_20 | rst_28 | rst_30 | rst_38
  -- R320
  | scf
  -- R321
  | ccf
  -- R322
  | cpl
  -- R440
  | halt
  -- R368
  | srl_b | srl_c | srl_d | srl_e | srl_h | srl_l
  -- R369
  | srl_atHL
  -- R368
  | srl_a
  -- R360
  | bit_0_b | bit_1_b | bit_2_b | bit_3_b | bit_4_b | bit_5_b | bit_6_b | bit_7_b | bit_0_c | bit_1_c
  | bit_2_c | bit_3_c | bit_4_c | bit_5_c | bit_6_c | bit_7_c | bit_0_d | bit_1_d | bit_2_d | bit_3_d
  | bit_4_d | bit_5_d | bit_6_d | bit_7_d | bit_0_e | bit_1_e | bit_2_e | bit_3_e | bit_4_e | bit_5_e
  | bit_6_e | bit_7_e | bit_0_h | bit_1_h | bit_2_h | bit_3_h | bit_4_h | bit_5_h | bit_6_h | bit_7_h
  | bit_0_l | bit_1_l | bit_2_l | bit_3_l | bit_4_l | bit_5_l | bit_6_l | bit_7_l
  -- R361
  | bit_0_atHL | bit_1_atHL | bit_2_atHL | bit_3_atHL | bit_4_atHL | bit_5_atHL | bit_6_atHL | bit_7_atHL
  -- R360
  | bit_0_a | bit_1_a | bit_2_a | bit_3_a | bit_4_a | bit_5_a | bit_6_a | bit_7_a
  -- R364
  | res_0_b | res_1_b | res_2_b | res_3_b | res_4_b | res_5_b | res_6_b | res_7_b | res_0_c | res_1_c
  | res_2_c | res_3_c | res_4_c | res_5_c | res_6_c | res_7_c | res_0_d | res_1_d | res_2_d | res_3_d
  | res_4_d | res_5_d | res_6_d | res_7_d | res_0_e | res_1_e | res_2_e | res_3_e | res_4_e | res_5_e
  | res_6_e | res_7_e | res_0_h | res_1_h | res_2_h | res_3_h | res_4_h | res_5_h | res_6_h | res_7_h
  | res_0_l | res_1_l | res_2_l | res_3_l | res_4_l | res_5_l | res_6_l | res_7_l
  -- R365
  | res_0_atHL | res_1_atHL | res_2_atHL | res_3_atHL | res_4_atHL | res_5_atHL | res_6_atHL | res_7_atHL
  -- R364
  | res_0_a | res_1_a | res_2_a | res_3_a | res_4_a | res_5_a | res_6_a | res_7_a
  -- R362
  | set_0_b | set_1_b | set_2_b | set_3_b | set_4_b | set_5_b | set_6_b | set_7_b | set_0_c | set_1_c
  | set_2_c | set_3_c | set_4_c | set_5_c | set_6_c | set_7_c | set_0_d | set_1_d | set_2_d | set_3_d
  | set_4_d | set_5_d | set_6_d | set_7_d | set_0_e | set_1_e | set_2_e | set_3_e | set_4_e | set_5_e
  | set_6_e | set_7_e | set_0_h | set_1_h | set_2_h | set_3_h | set_4_h | set_5_h | set_6_h | set_7_h
  | set_0_l | set_1_l | set_2_l | set_3_l | set_4_l | set_5_l | set_6_l | set_7_l
  -- R363
  | set_0_atHL | set_1_atHL | set_2_atHL | set_3_atHL | set_4_atHL | set_5_atHL | set_6_atHL | set_7_atHL
  -- R362
  | set_0_a | set_1_a | set_2_a | set_3_a | set_4_a | set_5_a | set_6_a | set_7_a
  -- R390
  | neg
  -- R412
  | push_ix
  -- R413
  | pop_ix
  -- R423
  | add_ix_bc | add_ix_de | add_ix_ix | add_ix_sp
  -- R412
  | push_iy
  -- R413
  | pop_iy
  -- R423
  | add_iy_bc | add_iy_de | add_iy_iy | add_iy_sp
  deriving DecidableEq, Repr

end Sys2Proof
end

