-- ==== Sys2Proof/Config.lean ====
section
/-! DEFINITION. The configuration record of 00_scope.md R7, the constraints it must meet, and the one free
value of the model. The record stands in `State` as data no step writes (log entry 1). -/

namespace Sys2Proof

/-- `Config.keyWidth`: 1 or 2 bytes (R7, D24). -/
inductive KeyWidth
  | one
  | two
  deriving DecidableEq, Repr

/-- How many values a key code of this width has: 256^keyWidth (R7). -/
def KeyWidth.bound : KeyWidth → Nat
  | .one => 256
  | .two => 65536

/-- `Config.unsettledFlagMode` (R7, R48, D35). -/
inductive FlagMode
  | decided
  | draw
  deriving DecidableEq, Repr

/-- The implementation parameters (R7). The fields of set type are lists without repeats. -/
structure Config where
  cycleLimit : Nat
  printAddr : Word
  newlineCode : Byte
  clsAddr : Word
  clsInit : List (Word × Byte)
  lastKeyAddr : Word
  keyWidth : KeyWidth
  noKeyValue : Word
  rotAccOps : List RotOp
  idxPrefixes : List IdxReg
  idxLoadRegs : List Reg8
  idxAddPair : IdxPair
  unsettledFlagMode : FlagMode
  initSP : Word
  deriving DecidableEq, Repr

/-- The constraints a configuration must meet (R7, D41), with the sizes R7's table gives the three sets:
exactly two rotates, at least one prefix, exactly four index-load registers. -/
def Config.ok (cfg : Config) : Bool :=
  decide (cfg.printAddr ≠ 0) && decide (cfg.clsAddr ≠ 0) && decide (cfg.printAddr ≠ cfg.clsAddr)
    && decide (cfg.noKeyValue.toNat < cfg.keyWidth.bound)
    && decide (cfg.rotAccOps.Nodup) && decide (cfg.rotAccOps.length = 2)
    && decide (cfg.idxPrefixes.Nodup) && decide (cfg.idxPrefixes ≠ [])
    && decide (cfg.idxLoadRegs.Nodup) && decide (cfg.idxLoadRegs.length = 4)

/-- The values of R7's table, and for its OPEN fields the values 95_test_vectors.md takes (its conventions),
with initSP at its vectors' start SP. DESIGN CHOICE: the spec leaves the OPEN fields open (log entries 2, 3). -/
def Config.vectors : Config where
  cycleLimit := 100000
  printAddr := 0x0010
  newlineCode := 0x76
  clsAddr := 0x0A2A
  clsInit := []
  lastKeyAddr := 0x4025
  keyWidth := .two
  noKeyValue := 0xFFFF
  rotAccOps := [.rlca, .rrca]
  idxPrefixes := [.ix]
  idxLoadRegs := [.a, .b, .c, .d]
  idxAddPair := .de
  unsettledFlagMode := .decided
  initSP := 0x4400

/-- The n-th free flag byte (R48, D35): what the unsettled bits of F become under `draw`. It has no body, so
nothing can be proved of its value (log entry 6). -/
opaque Config.freeFlags : Nat → Byte

end Sys2Proof
end

