-- ==== Sys2Proof/Machine/State.lean ====
section
/-! DEFINITION. The machine's state (10_state.md R30 to R48), its value at the start of a scenario (R47,
70_reset_and_hazards.md R550), and the reasons a step can stop. -/

namespace Sys2Proof.Machine

/-- The status of the run: `running` or one of the four terminal outcomes with its payload (R45, R500). -/
inductive Status
  | running
  /-- The sentinel address was reached (R513). -/
  | returned
  /-- A HALT under haltPolicy found nothing to do (R514). -/
  | haltedNoKeys
  /-- The bytes at `addr` are no admitted instruction (R510). -/
  | decodeError (addr : Word) (bytes : List Byte)
  /-- The counter passed cycleLimit (R512). -/
  | cycleLimitExceeded (count : Nat)
  deriving DecidableEq, Repr

/-- Memory as its listed cells (address, byte): see `Memory.wf` in Machine/Ops.lean for the canonical form. -/
abbrev Memory := List Host.Cell

/-- CpuState with the run-loop bookkeeping (R30, R45). -/
structure State where
  /-- The accumulator (R31). -/
  a : Byte
  /-- The flag byte S Z Y H X P/V N C, bit 7 to bit 0 (R35, R36). -/
  f : Byte
  /-- The six general registers (R31). -/
  b : Byte
  c : Byte
  d : Byte
  e : Byte
  h : Byte
  l : Byte
  /-- The stack pointer (R40). -/
  sp : Word
  /-- The program counter (R41). -/
  pc : Word
  /-- Whether PC holds a value: false until the first `run` or host write of PC (R41, R47, R530). -/
  pcSet : Bool
  /-- The index registers (R42). -/
  ix : Word
  iy : Word
  /-- The 65536 bytes of memory (R80), as the listed cells. -/
  mem : Memory
  /-- The completed lines of the captured output, oldest first (R43). -/
  lines : List (List Byte)
  /-- The in-progress line of the captured output, `partial` (R43). -/
  partialLine : List Byte
  /-- The pending key codes, head first (R44). -/
  queue : List Word
  /-- The cycle counter: the steps of the current run (R45). -/
  counter : Nat
  /-- The current run's haltPolicy (R8, R45). -/
  haltPolicy : Bool
  /-- The run's status (R45, R500). -/
  status : Status
  /-- The configuration (R7), written by no step (log entry 1). -/
  cfg : Config
  /-- The model's own field: how many free flag bytes have been drawn (log entry 6). -/
  draws : Nat
  deriving DecidableEq, Repr

/-- Why the machine stops with no next state. -/
inductive Fault
  /-- Raised by `step` alone, when the status is already a terminal outcome: the run loop makes no further step
  (R503). Safe: the model stops where the hardware does nothing. -/
  | runOver
  deriving DecidableEq, Repr

/-- What the model refuses. -/
inductive Refusal
  /-- Raised by an arm of `exec` with no meaning yet. Safe: the model stops. -/
  | notModelled (mnemonic : String)
  /-- Raised by `step` and `run` when the configuration breaks the constraints of R7: "the model does not accept
  such a configuration" (93_implementation_defined.md, row 17). Safe: the model stops. -/
  | configRejected
  /-- Raised by `step` when PC holds no value, because no run has begun (R41, R47). Safe: the model stops. -/
  | pcUnset
  deriving DecidableEq, Repr

/-- What a meaning answers. -/
abbrev Result := Host.Outcome State Fault Refusal

/-- The baseline a scenario starts in, for a configuration (R47, R550). PC's value is not the spec's, which gives
none while `pcSet` is false (log entry 4); `haltPolicy` and `draws` are the model's choice (log entry 5). -/
def State.create (cfg : Config) : State where
  a := 0x00
  f := 0x00
  b := 0x00
  c := 0x00
  d := 0x00
  e := 0x00
  h := 0x00
  l := 0x00
  sp := cfg.initSP
  pc := 0x0000
  pcSet := false
  ix := 0x0000
  iy := 0x0000
  mem := []
  lines := []
  partialLine := []
  queue := []
  counter := 0
  haltPolicy := false
  status := .running
  cfg := cfg
  draws := 0

/-- A fresh scenario under the configuration of the spec's test vectors (log entry 2). -/
def State.reset : State := State.create Config.vectors

end Sys2Proof.Machine
end

