-- ==== Sys2Proof/Machine/Ops.lean ====
section
/-! DEFINITION. The named operations over memory, registers, the stack and the run's status (10_state.md,
20_memory.md, 60_exceptions.md). Meanings are written over these. -/

namespace Sys2Proof.Machine

/-! ### Memory cells -/

/-- What an unlisted address reads as: the baseline byte of R47. -/
def Memory.blank : Byte := 0x00

/-- The byte at an address. -/
def Memory.read : Memory → Nat → Byte
  | [], _ => Memory.blank
  | (k, v) :: m, a => if k = a then v else Memory.read m a

/-- Drop every cell of an address. -/
def Memory.erase : Memory → Nat → Memory
  | [], _ => []
  | (k, v) :: m, a => if k = a then Memory.erase m a else (k, v) :: Memory.erase m a

/-- Put a cell before the first cell of a greater address. -/
def Memory.insert : Memory → Nat → Byte → Memory
  | [], a, v => [(a, v)]
  | (k, w) :: m, a, v => if a < k then (a, v) :: (k, w) :: m else (k, w) :: Memory.insert m a v

/-- Set the byte at an address; a cell that would read as unlisted is not kept. -/
def Memory.write (m : Memory) (a : Nat) (v : Byte) : Memory :=
  if v = Memory.blank then Memory.erase m a else Memory.insert (Memory.erase m a) a v

/-- The canonical form: addresses strictly rising and inside the space (R80), no cell equal to an unlisted one. -/
abbrev Memory.wf (m : Memory) : Prop :=
  m.Pairwise (fun p q => p.1 < q.1) ∧ ∀ p ∈ m, p.1 < 65536 ∧ p.2 ≠ Memory.blank

/-! ### Bytes and words of memory -/

/-- `MemRead(a, 1)` (R82). -/
def State.readByte (s : State) (a : Word) : Byte := s.mem.read a.toNat

/-- `MemWrite(a, 1, v)` (R83). -/
def State.writeByte (s : State) (a : Word) (v : Byte) : State :=
  { s with mem := s.mem.write a.toNat v }

/-- `MemRead(a, 2)`: little-endian, the second address wrapping (R84, R81). -/
def State.readWord (s : State) (a : Word) : Word := wordOf (s.readByte (a + 1)) (s.readByte a)

/-- `MemWrite(a, 2, v)`: the low byte at a, then the high byte at a + 1 (R85). -/
def State.writeWord (s : State) (a : Word) (v : Word) : State :=
  (s.writeByte a (loByte v)).writeByte (a + 1) (hiByte v)

/-- Write bytes to rising addresses from `base` on, in order, wrapping (R87). -/
def State.writeBlock (s : State) (base : Word) : List Byte → State
  | [] => s
  | v :: vs => State.writeBlock (s.writeByte base v) (base + 1) vs

/-- Write a list of (address, byte) pairs in list order (R455, R456). -/
def State.writeCells (s : State) : List (Word × Byte) → State
  | [] => s
  | (a, v) :: ws => State.writeCells (s.writeByte a v) ws

/-! ### Registers -/

/-- An 8-bit register of the operand selector (R130, but for its (HL)). -/
def State.reg (s : State) : Reg8 → Byte
  | .b => s.b
  | .c => s.c
  | .d => s.d
  | .e => s.e
  | .h => s.h
  | .l => s.l
  | .a => s.a

/-- Write an 8-bit register (R32). -/
def State.setReg (s : State) (r : Reg8) (v : Byte) : State :=
  match r with
  | .b => { s with b := v }
  | .c => { s with c := v }
  | .d => { s with d := v }
  | .e => { s with e := v }
  | .h => { s with h := v }
  | .l => { s with l := v }
  | .a => { s with a := v }

/-- A 16-bit register or pair view; the first-named register of a pair is the high byte (R33, R40, R42). -/
def State.reg16 (s : State) : Reg16 → Word
  | .bc => wordOf s.b s.c
  | .de => wordOf s.d s.e
  | .hl => wordOf s.h s.l
  | .af => wordOf s.a s.f
  | .sp => s.sp
  | .ix => s.ix
  | .iy => s.iy

/-- Write a 16-bit register, or both halves of a pair (R33). -/
def State.setReg16 (s : State) (r : Reg16) (v : Word) : State :=
  match r with
  | .bc => { s with b := hiByte v, c := loByte v }
  | .de => { s with d := hiByte v, e := loByte v }
  | .hl => { s with h := hiByte v, l := loByte v }
  | .af => { s with a := hiByte v, f := loByte v }
  | .sp => { s with sp := v }
  | .ix => { s with ix := v }
  | .iy => { s with iy := v }

/-- Write the whole flag byte. -/
def State.setF (s : State) (v : Byte) : State := { s with f := v }

/-- `PC <- v`. -/
def State.setPc (s : State) (v : Word) : State := { s with pc := v }

/-! ### The stack -/

/-- `push16(v)`: SP falls by 2, then the word is written at the new SP (R95). -/
def State.push16 (s : State) (v : Word) : State :=
  { s with sp := s.sp - 2 }.writeWord (s.sp - 2) v

/-- The word `pop16()` returns (R96). -/
def State.top16 (s : State) : Word := s.readWord s.sp

/-- What `pop16()` does to SP (R96). -/
def State.dropTop (s : State) : State := { s with sp := s.sp + 2 }

/-- `PC <- pop16()`: RET and the host return (R339, R452). -/
def State.popPc (s : State) : State := s.dropTop.setPc s.top16

/-! ### The run's status -/

/-- End the run with a terminal outcome: the one way this hardware raises an exceptional event. Nothing but the
status is written: no state is saved and no vector is taken (R501, R518). -/
def State.stop (s : State) (o : Status) : State := { s with status := o }

end Sys2Proof.Machine
end

