-- ==== Sys2Proof/Machine/Flags.lean ====
section
/-! DEFINITION. The flag computation engine (41_arith_logic.md R260 to R265), the bits of F (10_state.md R36),
and the unsettled flag bits (R48). -/

namespace Sys2Proof.Machine

/-- The mask of a flag in F (R36). -/
def flagMask : Flag → Byte
  | .s => 0x80
  | .z => 0x40
  | .h => 0x10
  | .pv => 0x04
  | .n => 0x02
  | .c => 0x01

/-- `get_flag`: one flag of a flag byte (R38). -/
def getFlag (f : Byte) (fl : Flag) : Bool := decide (f &&& flagMask fl ≠ 0)

/-- A flag byte with one flag written and every other bit kept. -/
def setFlag (f : Byte) (fl : Flag) (v : Bool) : Byte :=
  (f &&& ~~~flagMask fl) ||| (if v then flagMask fl else 0)

/-- One flag of F. -/
def State.flag (s : State) (fl : Flag) : Bool := getFlag s.f fl

/-- A flag byte replaced wholesale: the six flags given, bits 5 and 3 zero (R260, R37). -/
def wholesale (s z h pv n c : Bool) : Byte :=
  setFlag (setFlag (setFlag (setFlag (setFlag (setFlag 0x00 .s s) .z z) .h h) .pv pv) .n n) .c c

/-- Bit 7 of a result. -/
def signBit (r : Byte) : Bool := r.getLsbD 7

/-- `popcount(v)` (R9). -/
def popcount (v : Byte) : Nat :=
  (v.getLsbD 0).toNat + (v.getLsbD 1).toNat + (v.getLsbD 2).toNat + (v.getLsbD 3).toNat
    + (v.getLsbD 4).toNat + (v.getLsbD 5).toNat + (v.getLsbD 6).toNat + (v.getLsbD 7).toNat

/-- Additive policy `add8(a, b, cin)`: the result and the new flag byte (R261). -/
def add8 (a b : Byte) (cin : Bool) : Byte × Byte :=
  let u := a.toNat + b.toNat + cin.toNat
  let r : Byte := BitVec.ofNat 8 u
  (r, wholesale (signBit r) (decide (r = 0))
    (decide ((a &&& 0x0F).toNat + (b &&& 0x0F).toNat + cin.toNat > 15))
    (decide (((a ^^^ b ^^^ 0x80) &&& (a ^^^ r)) &&& 0x80 ≠ 0))
    false
    (decide (u > 255)))

/-- Subtractive policy `sub8(a, b, cin)`: the result and the new flag byte (R262). -/
def sub8 (a b : Byte) (cin : Bool) : Byte × Byte :=
  let u : Int := (a.toNat : Int) - b.toNat - cin.toNat
  let r : Byte := BitVec.ofInt 8 u
  (r, wholesale (signBit r) (decide (r = 0))
    (decide ((a &&& 0x0F).toNat < (b &&& 0x0F).toNat + cin.toNat))
    (decide (((a ^^^ b) &&& (a ^^^ r)) &&& 0x80 ≠ 0))
    true
    (decide (u < 0)))

/-- Logical policy `logic8(r, isAnd)`: the new flag byte; even parity in P/V (R263). -/
def logic8 (r : Byte) (isAnd : Bool) : Byte :=
  wholesale (signBit r) (decide (r = 0)) isAnd (decide (popcount r % 2 = 0)) false false

/-- Sign/zero-only policy `sz8(r)`, merged into a flag byte (R264). -/
def sz8 (f r : Byte) : Byte := setFlag (setFlag f .s (signBit r)) .z (decide (r = 0))

/-- 16-bit additive rule `add16(a, b)`: the result, and the flag byte with C written and H, N cleared (R265). -/
def add16 (a b : Word) (f : Byte) : Word × Byte :=
  (BitVec.ofNat 16 (a.toNat + b.toNat),
    setFlag (setFlag (setFlag f .c (decide (a.toNat + b.toNat > 65535))) .h false) .n false)

/-- The flag byte of SRL: Z and C only (R368). -/
def srlFlags (res : Byte) (c : Bool) : Byte :=
  wholesale false (decide (res = 0)) false false false c

/-! ### Unsettled bits (R48) -/

/-- INC r, INC (HL): H, P/V, N. -/
def unsettledInc8 : Byte := 0x16

/-- DEC r, DEC (HL): H, P/V. -/
def unsettledDec8 : Byte := 0x14

/-- INC rr, DEC rr: S, Z. -/
def unsettledInc16 : Byte := 0xC0

/-- SCF, CCF, CPL: H, N, bit 5, bit 3. -/
def unsettledCarry : Byte := 0x3A

/-- ADD HL,rr, ADD XY,pp: bit 5, bit 3. -/
def unsettledAdd16 : Byte := 0x28

/-- The bits of F under `mask` are unsettled: under `decided` they keep the values just written, under `draw` each
takes a free value (R48, D35; log entry 6). -/
def State.settle (s : State) (mask : Byte) : State :=
  match s.cfg.unsettledFlagMode with
  | .decided => s
  | .draw =>
    { s with f := (s.f &&& ~~~mask) ||| (Config.freeFlags s.draws &&& mask), draws := s.draws + 1 }

end Sys2Proof.Machine
end

