-- ==== Sys2Proof/Machine/Operands.lean ====
section
/-! DEFINITION. Operand forms and effective addresses (20_memory.md R92, 30_encoding.md R130, R136), and the
condition field (R133, 42_control.md R331). -/

namespace Sys2Proof.Machine

/-- HL, the address of the operand (HL) (R92, R130). -/
def State.hl (s : State) : Word := s.reg16 .hl

/-- The byte at HL: the operand selector's (HL) (R130). -/
def State.atHL (s : State) : Byte := s.readByte s.hl

/-- The value of an index register. -/
def State.idx (s : State) : IdxReg → Word
  | .ix => s.ix
  | .iy => s.iy

/-- The 16-bit register an index prefix names (R143). -/
def idxReg16 : IdxReg → Reg16
  | .ix => .ix
  | .iy => .iy

/-- The address (XY+d): `Word(XY + sext_8(d))` (R92, R410). -/
def State.idxAddr (s : State) (xy : IdxReg) (d : Byte) : Word := s.idx xy + sext8 d

/-- A relative target: `Word(PC + sext_8(e))`, PC past the instruction (R330). -/
def State.relTarget (s : State) (e : Byte) : Word := s.pc + sext8 e

/-- `cond(cc)` (R331). -/
def State.cond (s : State) : Cond → Bool
  | .nz => !s.flag .z
  | .z => s.flag .z
  | .nc => !s.flag .c
  | .c => s.flag .c

/-- The vector of RST: y · 8 (R135). -/
def rstVector (y : Fin 8) : Word := BitVec.ofNat 16 (y.val * 8)

/-- The bit mask 1 << b (R362). -/
def bitMask (b : Fin 8) : Byte := 1#8 <<< b.val

end Sys2Proof.Machine
end

