-- ==== Sys2Proof/Machine/Arith.lean ====
section
/-! DEFINITION. The 8-bit ALU instructions: eight operations on a register, (HL) or an immediate byte
(41_arith_logic.md R266, R270 to R293).
One definition per instruction. -/

namespace Sys2Proof.Machine

/-- The new A and F of an ALU operation on A, the operand v and the old Carry (R270 to R293). CP keeps A. -/
def aluResult (op : AluOp) (a v : Byte) (c : Bool) : Byte × Byte :=
  match op with
  | .add => add8 a v false
  | .adc => add8 a v c
  | .sub => sub8 a v false
  | .sbc => sub8 a v c
  | .and => (a &&& v, logic8 (a &&& v) true)
  | .xor => (a ^^^ v, logic8 (a ^^^ v) false)
  | .or => (a ||| v, logic8 (a ||| v) false)
  | .cp => (a, (sub8 a v false).2)

/-- An ALU instruction with operand v. -/
def alu (op : AluOp) (v : Byte) (s : State) : Result :=
  let p := aluResult op s.a v (s.flag .c)
  .next ((s.setReg .a p.1).setF p.2)

/-! #### R270 -/

/-- ADD A,B -/
def execAdd_a_b (s : State) : Result := alu .add (s.reg .b) s

/-- ADD A,C -/
def execAdd_a_c (s : State) : Result := alu .add (s.reg .c) s

/-- ADD A,D -/
def execAdd_a_d (s : State) : Result := alu .add (s.reg .d) s

/-- ADD A,E -/
def execAdd_a_e (s : State) : Result := alu .add (s.reg .e) s

/-- ADD A,H -/
def execAdd_a_h (s : State) : Result := alu .add (s.reg .h) s

/-- ADD A,L -/
def execAdd_a_l (s : State) : Result := alu .add (s.reg .l) s

/-! #### R271 -/

/-- ADD A,(HL) -/
def execAdd_a_atHL (s : State) : Result := alu .add s.atHL s

/-! #### R270 -/

/-- ADD A,A -/
def execAdd_a_a (s : State) : Result := alu .add (s.reg .a) s

/-! #### R273 -/

/-- ADC A,B -/
def execAdc_a_b (s : State) : Result := alu .adc (s.reg .b) s

/-- ADC A,C -/
def execAdc_a_c (s : State) : Result := alu .adc (s.reg .c) s

/-- ADC A,D -/
def execAdc_a_d (s : State) : Result := alu .adc (s.reg .d) s

/-- ADC A,E -/
def execAdc_a_e (s : State) : Result := alu .adc (s.reg .e) s

/-- ADC A,H -/
def execAdc_a_h (s : State) : Result := alu .adc (s.reg .h) s

/-- ADC A,L -/
def execAdc_a_l (s : State) : Result := alu .adc (s.reg .l) s

/-! #### R274 -/

/-- ADC A,(HL) -/
def execAdc_a_atHL (s : State) : Result := alu .adc s.atHL s

/-! #### R273 -/

/-- ADC A,A -/
def execAdc_a_a (s : State) : Result := alu .adc (s.reg .a) s

/-! #### R276 -/

/-- SUB B -/
def execSub_b (s : State) : Result := alu .sub (s.reg .b) s

/-- SUB C -/
def execSub_c (s : State) : Result := alu .sub (s.reg .c) s

/-- SUB D -/
def execSub_d (s : State) : Result := alu .sub (s.reg .d) s

/-- SUB E -/
def execSub_e (s : State) : Result := alu .sub (s.reg .e) s

/-- SUB H -/
def execSub_h (s : State) : Result := alu .sub (s.reg .h) s

/-- SUB L -/
def execSub_l (s : State) : Result := alu .sub (s.reg .l) s

/-! #### R277 -/

/-- SUB (HL) -/
def execSub_atHL (s : State) : Result := alu .sub s.atHL s

/-! #### R276 -/

/-- SUB A -/
def execSub_a (s : State) : Result := alu .sub (s.reg .a) s

/-! #### R279 -/

/-- SBC A,B -/
def execSbc_a_b (s : State) : Result := alu .sbc (s.reg .b) s

/-- SBC A,C -/
def execSbc_a_c (s : State) : Result := alu .sbc (s.reg .c) s

/-- SBC A,D -/
def execSbc_a_d (s : State) : Result := alu .sbc (s.reg .d) s

/-- SBC A,E -/
def execSbc_a_e (s : State) : Result := alu .sbc (s.reg .e) s

/-- SBC A,H -/
def execSbc_a_h (s : State) : Result := alu .sbc (s.reg .h) s

/-- SBC A,L -/
def execSbc_a_l (s : State) : Result := alu .sbc (s.reg .l) s

/-! #### R280 -/

/-- SBC A,(HL) -/
def execSbc_a_atHL (s : State) : Result := alu .sbc s.atHL s

/-! #### R279 -/

/-- SBC A,A -/
def execSbc_a_a (s : State) : Result := alu .sbc (s.reg .a) s

/-! #### R282 -/

/-- AND B -/
def execAnd_b (s : State) : Result := alu .and (s.reg .b) s

/-- AND C -/
def execAnd_c (s : State) : Result := alu .and (s.reg .c) s

/-- AND D -/
def execAnd_d (s : State) : Result := alu .and (s.reg .d) s

/-- AND E -/
def execAnd_e (s : State) : Result := alu .and (s.reg .e) s

/-- AND H -/
def execAnd_h (s : State) : Result := alu .and (s.reg .h) s

/-- AND L -/
def execAnd_l (s : State) : Result := alu .and (s.reg .l) s

/-! #### R283 -/

/-- AND (HL) -/
def execAnd_atHL (s : State) : Result := alu .and s.atHL s

/-! #### R282 -/

/-- AND A -/
def execAnd_a (s : State) : Result := alu .and (s.reg .a) s

/-! #### R285 -/

/-- XOR B -/
def execXor_b (s : State) : Result := alu .xor (s.reg .b) s

/-- XOR C -/
def execXor_c (s : State) : Result := alu .xor (s.reg .c) s

/-- XOR D -/
def execXor_d (s : State) : Result := alu .xor (s.reg .d) s

/-- XOR E -/
def execXor_e (s : State) : Result := alu .xor (s.reg .e) s

/-- XOR H -/
def execXor_h (s : State) : Result := alu .xor (s.reg .h) s

/-- XOR L -/
def execXor_l (s : State) : Result := alu .xor (s.reg .l) s

/-! #### R286 -/

/-- XOR (HL) -/
def execXor_atHL (s : State) : Result := alu .xor s.atHL s

/-! #### R285 -/

/-- XOR A -/
def execXor_a (s : State) : Result := alu .xor (s.reg .a) s

/-! #### R288 -/

/-- OR B -/
def execOr_b (s : State) : Result := alu .or (s.reg .b) s

/-- OR C -/
def execOr_c (s : State) : Result := alu .or (s.reg .c) s

/-- OR D -/
def execOr_d (s : State) : Result := alu .or (s.reg .d) s

/-- OR E -/
def execOr_e (s : State) : Result := alu .or (s.reg .e) s

/-- OR H -/
def execOr_h (s : State) : Result := alu .or (s.reg .h) s

/-- OR L -/
def execOr_l (s : State) : Result := alu .or (s.reg .l) s

/-! #### R289 -/

/-- OR (HL) -/
def execOr_atHL (s : State) : Result := alu .or s.atHL s

/-! #### R288 -/

/-- OR A -/
def execOr_a (s : State) : Result := alu .or (s.reg .a) s

/-! #### R291 -/

/-- CP B -/
def execCp_b (s : State) : Result := alu .cp (s.reg .b) s

/-- CP C -/
def execCp_c (s : State) : Result := alu .cp (s.reg .c) s

/-- CP D -/
def execCp_d (s : State) : Result := alu .cp (s.reg .d) s

/-- CP E -/
def execCp_e (s : State) : Result := alu .cp (s.reg .e) s

/-- CP H -/
def execCp_h (s : State) : Result := alu .cp (s.reg .h) s

/-- CP L -/
def execCp_l (s : State) : Result := alu .cp (s.reg .l) s

/-! #### R292 -/

/-- CP (HL) -/
def execCp_atHL (s : State) : Result := alu .cp s.atHL s

/-! #### R291 -/

/-- CP A -/
def execCp_a (s : State) : Result := alu .cp (s.reg .a) s

/-! #### R272 -/

/-- ADD A,n -/
def execAdd_a_n (n : Byte) (s : State) : Result := alu .add n s

/-! #### R275 -/

/-- ADC A,n -/
def execAdc_a_n (n : Byte) (s : State) : Result := alu .adc n s

/-! #### R278 -/

/-- SUB n -/
def execSub_n (n : Byte) (s : State) : Result := alu .sub n s

/-! #### R281 -/

/-- SBC A,n -/
def execSbc_a_n (n : Byte) (s : State) : Result := alu .sbc n s

/-! #### R284 -/

/-- AND n -/
def execAnd_n (n : Byte) (s : State) : Result := alu .and n s

/-! #### R287 -/

/-- XOR n -/
def execXor_n (n : Byte) (s : State) : Result := alu .xor n s

/-! #### R290 -/

/-- OR n -/
def execOr_n (n : Byte) (s : State) : Result := alu .or n s

/-! #### R293 -/

/-- CP n -/
def execCp_n (n : Byte) (s : State) : Result := alu .cp n s

end Sys2Proof.Machine
end

