-- ==== Sys2Proof/Machine/Load.lean ====
section
/-! DEFINITION. No-op, 8-bit and 16-bit loads, indirect and direct loads and stores (40_loads_stack.md R200 to
R219).
One definition per instruction. -/

namespace Sys2Proof.Machine

/-- NOP changes nothing beyond the PC's advance, which fetch has made (R200). -/
def nopMeaning (s : State) : Result := .next s

/-- `r <- v`. -/
def loadReg (r : Reg8) (v : Byte) (s : State) : Result := .next (s.setReg r v)

/-- `MemWrite(a, 1, v)`. -/
def storeByte (a : Word) (v : Byte) (s : State) : Result := .next (s.writeByte a v)

/-- `rr <- v`. -/
def loadReg16 (r : Reg16) (v : Word) (s : State) : Result := .next (s.setReg16 r v)

/-- `MemWrite(a, 2, v)`. -/
def storeWord (a : Word) (v : Word) (s : State) : Result := .next (s.writeWord a v)

/-! #### R200 -/

/-- NOP -/
def execNop (s : State) : Result := nopMeaning s

/-! #### R201 -/

/-- LD B,B -/
def execLd_b_b (s : State) : Result := loadReg .b (s.reg .b) s

/-- LD B,C -/
def execLd_b_c (s : State) : Result := loadReg .b (s.reg .c) s

/-- LD B,D -/
def execLd_b_d (s : State) : Result := loadReg .b (s.reg .d) s

/-- LD B,E -/
def execLd_b_e (s : State) : Result := loadReg .b (s.reg .e) s

/-- LD B,H -/
def execLd_b_h (s : State) : Result := loadReg .b (s.reg .h) s

/-- LD B,L -/
def execLd_b_l (s : State) : Result := loadReg .b (s.reg .l) s

/-! #### R202 -/

/-- LD B,(HL) -/
def execLd_b_atHL (s : State) : Result := loadReg .b s.atHL s

/-! #### R201 -/

/-- LD B,A -/
def execLd_b_a (s : State) : Result := loadReg .b (s.reg .a) s

/-- LD C,B -/
def execLd_c_b (s : State) : Result := loadReg .c (s.reg .b) s

/-- LD C,C -/
def execLd_c_c (s : State) : Result := loadReg .c (s.reg .c) s

/-- LD C,D -/
def execLd_c_d (s : State) : Result := loadReg .c (s.reg .d) s

/-- LD C,E -/
def execLd_c_e (s : State) : Result := loadReg .c (s.reg .e) s

/-- LD C,H -/
def execLd_c_h (s : State) : Result := loadReg .c (s.reg .h) s

/-- LD C,L -/
def execLd_c_l (s : State) : Result := loadReg .c (s.reg .l) s

/-! #### R202 -/

/-- LD C,(HL) -/
def execLd_c_atHL (s : State) : Result := loadReg .c s.atHL s

/-! #### R201 -/

/-- LD C,A -/
def execLd_c_a (s : State) : Result := loadReg .c (s.reg .a) s

/-- LD D,B -/
def execLd_d_b (s : State) : Result := loadReg .d (s.reg .b) s

/-- LD D,C -/
def execLd_d_c (s : State) : Result := loadReg .d (s.reg .c) s

/-- LD D,D -/
def execLd_d_d (s : State) : Result := loadReg .d (s.reg .d) s

/-- LD D,E -/
def execLd_d_e (s : State) : Result := loadReg .d (s.reg .e) s

/-- LD D,H -/
def execLd_d_h (s : State) : Result := loadReg .d (s.reg .h) s

/-- LD D,L -/
def execLd_d_l (s : State) : Result := loadReg .d (s.reg .l) s

/-! #### R202 -/

/-- LD D,(HL) -/
def execLd_d_atHL (s : State) : Result := loadReg .d s.atHL s

/-! #### R201 -/

/-- LD D,A -/
def execLd_d_a (s : State) : Result := loadReg .d (s.reg .a) s

/-- LD E,B -/
def execLd_e_b (s : State) : Result := loadReg .e (s.reg .b) s

/-- LD E,C -/
def execLd_e_c (s : State) : Result := loadReg .e (s.reg .c) s

/-- LD E,D -/
def execLd_e_d (s : State) : Result := loadReg .e (s.reg .d) s

/-- LD E,E -/
def execLd_e_e (s : State) : Result := loadReg .e (s.reg .e) s

/-- LD E,H -/
def execLd_e_h (s : State) : Result := loadReg .e (s.reg .h) s

/-- LD E,L -/
def execLd_e_l (s : State) : Result := loadReg .e (s.reg .l) s

/-! #### R202 -/

/-- LD E,(HL) -/
def execLd_e_atHL (s : State) : Result := loadReg .e s.atHL s

/-! #### R201 -/

/-- LD E,A -/
def execLd_e_a (s : State) : Result := loadReg .e (s.reg .a) s

/-- LD H,B -/
def execLd_h_b (s : State) : Result := loadReg .h (s.reg .b) s

/-- LD H,C -/
def execLd_h_c (s : State) : Result := loadReg .h (s.reg .c) s

/-- LD H,D -/
def execLd_h_d (s : State) : Result := loadReg .h (s.reg .d) s

/-- LD H,E -/
def execLd_h_e (s : State) : Result := loadReg .h (s.reg .e) s

/-- LD H,H -/
def execLd_h_h (s : State) : Result := loadReg .h (s.reg .h) s

/-- LD H,L -/
def execLd_h_l (s : State) : Result := loadReg .h (s.reg .l) s

/-! #### R202 -/

/-- LD H,(HL) -/
def execLd_h_atHL (s : State) : Result := loadReg .h s.atHL s

/-! #### R201 -/

/-- LD H,A -/
def execLd_h_a (s : State) : Result := loadReg .h (s.reg .a) s

/-- LD L,B -/
def execLd_l_b (s : State) : Result := loadReg .l (s.reg .b) s

/-- LD L,C -/
def execLd_l_c (s : State) : Result := loadReg .l (s.reg .c) s

/-- LD L,D -/
def execLd_l_d (s : State) : Result := loadReg .l (s.reg .d) s

/-- LD L,E -/
def execLd_l_e (s : State) : Result := loadReg .l (s.reg .e) s

/-- LD L,H -/
def execLd_l_h (s : State) : Result := loadReg .l (s.reg .h) s

/-- LD L,L -/
def execLd_l_l (s : State) : Result := loadReg .l (s.reg .l) s

/-! #### R202 -/

/-- LD L,(HL) -/
def execLd_l_atHL (s : State) : Result := loadReg .l s.atHL s

/-! #### R201 -/

/-- LD L,A -/
def execLd_l_a (s : State) : Result := loadReg .l (s.reg .a) s

/-! #### R203 -/

/-- LD (HL),B -/
def execLd_atHL_b (s : State) : Result := storeByte s.hl (s.reg .b) s

/-- LD (HL),C -/
def execLd_atHL_c (s : State) : Result := storeByte s.hl (s.reg .c) s

/-- LD (HL),D -/
def execLd_atHL_d (s : State) : Result := storeByte s.hl (s.reg .d) s

/-- LD (HL),E -/
def execLd_atHL_e (s : State) : Result := storeByte s.hl (s.reg .e) s

/-- LD (HL),H -/
def execLd_atHL_h (s : State) : Result := storeByte s.hl (s.reg .h) s

/-- LD (HL),L -/
def execLd_atHL_l (s : State) : Result := storeByte s.hl (s.reg .l) s

/-- LD (HL),A -/
def execLd_atHL_a (s : State) : Result := storeByte s.hl (s.reg .a) s

/-! #### R201 -/

/-- LD A,B -/
def execLd_a_b (s : State) : Result := loadReg .a (s.reg .b) s

/-- LD A,C -/
def execLd_a_c (s : State) : Result := loadReg .a (s.reg .c) s

/-- LD A,D -/
def execLd_a_d (s : State) : Result := loadReg .a (s.reg .d) s

/-- LD A,E -/
def execLd_a_e (s : State) : Result := loadReg .a (s.reg .e) s

/-- LD A,H -/
def execLd_a_h (s : State) : Result := loadReg .a (s.reg .h) s

/-- LD A,L -/
def execLd_a_l (s : State) : Result := loadReg .a (s.reg .l) s

/-! #### R202 -/

/-- LD A,(HL) -/
def execLd_a_atHL (s : State) : Result := loadReg .a s.atHL s

/-! #### R201 -/

/-- LD A,A -/
def execLd_a_a (s : State) : Result := loadReg .a (s.reg .a) s

/-! #### R204 -/

/-- LD B,n -/
def execLd_b_n (n : Byte) (s : State) : Result := loadReg .b n s

/-- LD C,n -/
def execLd_c_n (n : Byte) (s : State) : Result := loadReg .c n s

/-- LD D,n -/
def execLd_d_n (n : Byte) (s : State) : Result := loadReg .d n s

/-- LD E,n -/
def execLd_e_n (n : Byte) (s : State) : Result := loadReg .e n s

/-- LD H,n -/
def execLd_h_n (n : Byte) (s : State) : Result := loadReg .h n s

/-- LD L,n -/
def execLd_l_n (n : Byte) (s : State) : Result := loadReg .l n s

/-! #### R205 -/

/-- LD (HL),n -/
def execLd_atHL_n (n : Byte) (s : State) : Result := storeByte s.hl n s

/-! #### R204 -/

/-- LD A,n -/
def execLd_a_n (n : Byte) (s : State) : Result := loadReg .a n s

/-! #### R210 -/

/-- LD BC,nn -/
def execLd_bc_nn (nn : Word) (s : State) : Result := loadReg16 .bc nn s

/-- LD DE,nn -/
def execLd_de_nn (nn : Word) (s : State) : Result := loadReg16 .de nn s

/-- LD HL,nn -/
def execLd_hl_nn (nn : Word) (s : State) : Result := loadReg16 .hl nn s

/-! #### R211 -/

/-- LD SP,nn -/
def execLd_sp_nn (nn : Word) (s : State) : Result := loadReg16 .sp nn s

/-! #### R212 -/

/-- LD A,(BC) -/
def execLd_a_atBC (s : State) : Result := loadReg .a (s.readByte (s.reg16 .bc)) s

/-! #### R213 -/

/-- LD A,(DE) -/
def execLd_a_atDE (s : State) : Result := loadReg .a (s.readByte (s.reg16 .de)) s

/-! #### R214 -/

/-- LD (BC),A -/
def execLd_atBC_a (s : State) : Result := storeByte (s.reg16 .bc) s.a s

/-! #### R215 -/

/-- LD (DE),A -/
def execLd_atDE_a (s : State) : Result := storeByte (s.reg16 .de) s.a s

/-! #### R216 -/

/-- LD A,(nn) -/
def execLd_a_atNN (nn : Word) (s : State) : Result := loadReg .a (s.readByte nn) s

/-! #### R217 -/

/-- LD (nn),A -/
def execLd_atNN_a (nn : Word) (s : State) : Result := storeByte nn s.a s

/-! #### R218 -/

/-- LD HL,(nn) -/
def execLd_hl_atNN (nn : Word) (s : State) : Result := loadReg16 .hl (s.readWord nn) s

/-! #### R219 -/

/-- LD (nn),HL -/
def execLd_atNN_hl (nn : Word) (s : State) : Result := storeWord nn (s.reg16 .hl) s

end Sys2Proof.Machine
end

