-- ==== Sys2Proof/Machine/Bits.lean ====
section
/-! DEFINITION. The bit-operations prefix 0xCB (43_prefix_cb.md R360 to R369).
One definition per instruction. -/

namespace Sys2Proof.Machine

/-- BIT: `Z <- ~v[b] & 1; H <- 1`, every other flag kept (R360, R361). -/
def testBit (b : Fin 8) (v : Byte) (s : State) : Result :=
  .next (s.setF (setFlag (setFlag s.f .z (!v.getLsbD b.val)) .h true))

/-- `v | (1 << b)` (R362, R363). -/
def setBit (b : Fin 8) (v : Byte) : Byte := v ||| bitMask b

/-- `v & ~(1 << b)` (R364, R365). -/
def resetBit (b : Fin 8) (v : Byte) : Byte := v &&& ~~~bitMask b

/-- SRL r: F is replaced wholesale by Z and C (R368). -/
def shiftReg (r : Reg8) (s : State) : Result :=
  let v := s.reg r
  .next ((s.setReg r (v >>> 1)).setF (srlFlags (v >>> 1) (v.getLsbD 0)))

/-- SRL (HL) (R369). -/
def shiftMem (s : State) : Result :=
  let v := s.atHL
  .next ((s.writeByte s.hl (v >>> 1)).setF (srlFlags (v >>> 1) (v.getLsbD 0)))

/-! #### R368 -/

/-- SRL B -/
def execSrl_b (s : State) : Result := shiftReg .b s

/-- SRL C -/
def execSrl_c (s : State) : Result := shiftReg .c s

/-- SRL D -/
def execSrl_d (s : State) : Result := shiftReg .d s

/-- SRL E -/
def execSrl_e (s : State) : Result := shiftReg .e s

/-- SRL H -/
def execSrl_h (s : State) : Result := shiftReg .h s

/-- SRL L -/
def execSrl_l (s : State) : Result := shiftReg .l s

/-! #### R369 -/

/-- SRL (HL) -/
def execSrl_atHL (s : State) : Result := shiftMem s

/-! #### R368 -/

/-- SRL A -/
def execSrl_a (s : State) : Result := shiftReg .a s

/-! #### R360 -/

/-- BIT 0,B -/
def execBit_0_b (s : State) : Result := testBit 0 (s.reg .b) s

/-- BIT 1,B -/
def execBit_1_b (s : State) : Result := testBit 1 (s.reg .b) s

/-- BIT 2,B -/
def execBit_2_b (s : State) : Result := testBit 2 (s.reg .b) s

/-- BIT 3,B -/
def execBit_3_b (s : State) : Result := testBit 3 (s.reg .b) s

/-- BIT 4,B -/
def execBit_4_b (s : State) : Result := testBit 4 (s.reg .b) s

/-- BIT 5,B -/
def execBit_5_b (s : State) : Result := testBit 5 (s.reg .b) s

/-- BIT 6,B -/
def execBit_6_b (s : State) : Result := testBit 6 (s.reg .b) s

/-- BIT 7,B -/
def execBit_7_b (s : State) : Result := testBit 7 (s.reg .b) s

/-- BIT 0,C -/
def execBit_0_c (s : State) : Result := testBit 0 (s.reg .c) s

/-- BIT 1,C -/
def execBit_1_c (s : State) : Result := testBit 1 (s.reg .c) s

/-- BIT 2,C -/
def execBit_2_c (s : State) : Result := testBit 2 (s.reg .c) s

/-- BIT 3,C -/
def execBit_3_c (s : State) : Result := testBit 3 (s.reg .c) s

/-- BIT 4,C -/
def execBit_4_c (s : State) : Result := testBit 4 (s.reg .c) s

/-- BIT 5,C -/
def execBit_5_c (s : State) : Result := testBit 5 (s.reg .c) s

/-- BIT 6,C -/
def execBit_6_c (s : State) : Result := testBit 6 (s.reg .c) s

/-- BIT 7,C -/
def execBit_7_c (s : State) : Result := testBit 7 (s.reg .c) s

/-- BIT 0,D -/
def execBit_0_d (s : State) : Result := testBit 0 (s.reg .d) s

/-- BIT 1,D -/
def execBit_1_d (s : State) : Result := testBit 1 (s.reg .d) s

/-- BIT 2,D -/
def execBit_2_d (s : State) : Result := testBit 2 (s.reg .d) s

/-- BIT 3,D -/
def execBit_3_d (s : State) : Result := testBit 3 (s.reg .d) s

/-- BIT 4,D -/
def execBit_4_d (s : State) : Result := testBit 4 (s.reg .d) s

/-- BIT 5,D -/
def execBit_5_d (s : State) : Result := testBit 5 (s.reg .d) s

/-- BIT 6,D -/
def execBit_6_d (s : State) : Result := testBit 6 (s.reg .d) s

/-- BIT 7,D -/
def execBit_7_d (s : State) : Result := testBit 7 (s.reg .d) s

/-- BIT 0,E -/
def execBit_0_e (s : State) : Result := testBit 0 (s.reg .e) s

/-- BIT 1,E -/
def execBit_1_e (s : State) : Result := testBit 1 (s.reg .e) s

/-- BIT 2,E -/
def execBit_2_e (s : State) : Result := testBit 2 (s.reg .e) s

/-- BIT 3,E -/
def execBit_3_e (s : State) : Result := testBit 3 (s.reg .e) s

/-- BIT 4,E -/
def execBit_4_e (s : State) : Result := testBit 4 (s.reg .e) s

/-- BIT 5,E -/
def execBit_5_e (s : State) : Result := testBit 5 (s.reg .e) s

/-- BIT 6,E -/
def execBit_6_e (s : State) : Result := testBit 6 (s.reg .e) s

/-- BIT 7,E -/
def execBit_7_e (s : State) : Result := testBit 7 (s.reg .e) s

/-- BIT 0,H -/
def execBit_0_h (s : State) : Result := testBit 0 (s.reg .h) s

/-- BIT 1,H -/
def execBit_1_h (s : State) : Result := testBit 1 (s.reg .h) s

/-- BIT 2,H -/
def execBit_2_h (s : State) : Result := testBit 2 (s.reg .h) s

/-- BIT 3,H -/
def execBit_3_h (s : State) : Result := testBit 3 (s.reg .h) s

/-- BIT 4,H -/
def execBit_4_h (s : State) : Result := testBit 4 (s.reg .h) s

/-- BIT 5,H -/
def execBit_5_h (s : State) : Result := testBit 5 (s.reg .h) s

/-- BIT 6,H -/
def execBit_6_h (s : State) : Result := testBit 6 (s.reg .h) s

/-- BIT 7,H -/
def execBit_7_h (s : State) : Result := testBit 7 (s.reg .h) s

/-- BIT 0,L -/
def execBit_0_l (s : State) : Result := testBit 0 (s.reg .l) s

/-- BIT 1,L -/
def execBit_1_l (s : State) : Result := testBit 1 (s.reg .l) s

/-- BIT 2,L -/
def execBit_2_l (s : State) : Result := testBit 2 (s.reg .l) s

/-- BIT 3,L -/
def execBit_3_l (s : State) : Result := testBit 3 (s.reg .l) s

/-- BIT 4,L -/
def execBit_4_l (s : State) : Result := testBit 4 (s.reg .l) s

/-- BIT 5,L -/
def execBit_5_l (s : State) : Result := testBit 5 (s.reg .l) s

/-- BIT 6,L -/
def execBit_6_l (s : State) : Result := testBit 6 (s.reg .l) s

/-- BIT 7,L -/
def execBit_7_l (s : State) : Result := testBit 7 (s.reg .l) s

/-! #### R361 -/

/-- BIT 0,(HL) -/
def execBit_0_atHL (s : State) : Result := testBit 0 s.atHL s

/-- BIT 1,(HL) -/
def execBit_1_atHL (s : State) : Result := testBit 1 s.atHL s

/-- BIT 2,(HL) -/
def execBit_2_atHL (s : State) : Result := testBit 2 s.atHL s

/-- BIT 3,(HL) -/
def execBit_3_atHL (s : State) : Result := testBit 3 s.atHL s

/-- BIT 4,(HL) -/
def execBit_4_atHL (s : State) : Result := testBit 4 s.atHL s

/-- BIT 5,(HL) -/
def execBit_5_atHL (s : State) : Result := testBit 5 s.atHL s

/-- BIT 6,(HL) -/
def execBit_6_atHL (s : State) : Result := testBit 6 s.atHL s

/-- BIT 7,(HL) -/
def execBit_7_atHL (s : State) : Result := testBit 7 s.atHL s

/-! #### R360 -/

/-- BIT 0,A -/
def execBit_0_a (s : State) : Result := testBit 0 (s.reg .a) s

/-- BIT 1,A -/
def execBit_1_a (s : State) : Result := testBit 1 (s.reg .a) s

/-- BIT 2,A -/
def execBit_2_a (s : State) : Result := testBit 2 (s.reg .a) s

/-- BIT 3,A -/
def execBit_3_a (s : State) : Result := testBit 3 (s.reg .a) s

/-- BIT 4,A -/
def execBit_4_a (s : State) : Result := testBit 4 (s.reg .a) s

/-- BIT 5,A -/
def execBit_5_a (s : State) : Result := testBit 5 (s.reg .a) s

/-- BIT 6,A -/
def execBit_6_a (s : State) : Result := testBit 6 (s.reg .a) s

/-- BIT 7,A -/
def execBit_7_a (s : State) : Result := testBit 7 (s.reg .a) s

/-! #### R364 -/

/-- RES 0,B -/
def execRes_0_b (s : State) : Result := loadReg .b (resetBit 0 (s.reg .b)) s

/-- RES 1,B -/
def execRes_1_b (s : State) : Result := loadReg .b (resetBit 1 (s.reg .b)) s

/-- RES 2,B -/
def execRes_2_b (s : State) : Result := loadReg .b (resetBit 2 (s.reg .b)) s

/-- RES 3,B -/
def execRes_3_b (s : State) : Result := loadReg .b (resetBit 3 (s.reg .b)) s

/-- RES 4,B -/
def execRes_4_b (s : State) : Result := loadReg .b (resetBit 4 (s.reg .b)) s

/-- RES 5,B -/
def execRes_5_b (s : State) : Result := loadReg .b (resetBit 5 (s.reg .b)) s

/-- RES 6,B -/
def execRes_6_b (s : State) : Result := loadReg .b (resetBit 6 (s.reg .b)) s

/-- RES 7,B -/
def execRes_7_b (s : State) : Result := loadReg .b (resetBit 7 (s.reg .b)) s

/-- RES 0,C -/
def execRes_0_c (s : State) : Result := loadReg .c (resetBit 0 (s.reg .c)) s

/-- RES 1,C -/
def execRes_1_c (s : State) : Result := loadReg .c (resetBit 1 (s.reg .c)) s

/-- RES 2,C -/
def execRes_2_c (s : State) : Result := loadReg .c (resetBit 2 (s.reg .c)) s

/-- RES 3,C -/
def execRes_3_c (s : State) : Result := loadReg .c (resetBit 3 (s.reg .c)) s

/-- RES 4,C -/
def execRes_4_c (s : State) : Result := loadReg .c (resetBit 4 (s.reg .c)) s

/-- RES 5,C -/
def execRes_5_c (s : State) : Result := loadReg .c (resetBit 5 (s.reg .c)) s

/-- RES 6,C -/
def execRes_6_c (s : State) : Result := loadReg .c (resetBit 6 (s.reg .c)) s

/-- RES 7,C -/
def execRes_7_c (s : State) : Result := loadReg .c (resetBit 7 (s.reg .c)) s

/-- RES 0,D -/
def execRes_0_d (s : State) : Result := loadReg .d (resetBit 0 (s.reg .d)) s

/-- RES 1,D -/
def execRes_1_d (s : State) : Result := loadReg .d (resetBit 1 (s.reg .d)) s

/-- RES 2,D -/
def execRes_2_d (s : State) : Result := loadReg .d (resetBit 2 (s.reg .d)) s

/-- RES 3,D -/
def execRes_3_d (s : State) : Result := loadReg .d (resetBit 3 (s.reg .d)) s

/-- RES 4,D -/
def execRes_4_d (s : State) : Result := loadReg .d (resetBit 4 (s.reg .d)) s

/-- RES 5,D -/
def execRes_5_d (s : State) : Result := loadReg .d (resetBit 5 (s.reg .d)) s

/-- RES 6,D -/
def execRes_6_d (s : State) : Result := loadReg .d (resetBit 6 (s.reg .d)) s

/-- RES 7,D -/
def execRes_7_d (s : State) : Result := loadReg .d (resetBit 7 (s.reg .d)) s

/-- RES 0,E -/
def execRes_0_e (s : State) : Result := loadReg .e (resetBit 0 (s.reg .e)) s

/-- RES 1,E -/
def execRes_1_e (s : State) : Result := loadReg .e (resetBit 1 (s.reg .e)) s

/-- RES 2,E -/
def execRes_2_e (s : State) : Result := loadReg .e (resetBit 2 (s.reg .e)) s

/-- RES 3,E -/
def execRes_3_e (s : State) : Result := loadReg .e (resetBit 3 (s.reg .e)) s

/-- RES 4,E -/
def execRes_4_e (s : State) : Result := loadReg .e (resetBit 4 (s.reg .e)) s

/-- RES 5,E -/
def execRes_5_e (s : State) : Result := loadReg .e (resetBit 5 (s.reg .e)) s

/-- RES 6,E -/
def execRes_6_e (s : State) : Result := loadReg .e (resetBit 6 (s.reg .e)) s

/-- RES 7,E -/
def execRes_7_e (s : State) : Result := loadReg .e (resetBit 7 (s.reg .e)) s

/-- RES 0,H -/
def execRes_0_h (s : State) : Result := loadReg .h (resetBit 0 (s.reg .h)) s

/-- RES 1,H -/
def execRes_1_h (s : State) : Result := loadReg .h (resetBit 1 (s.reg .h)) s

/-- RES 2,H -/
def execRes_2_h (s : State) : Result := loadReg .h (resetBit 2 (s.reg .h)) s

/-- RES 3,H -/
def execRes_3_h (s : State) : Result := loadReg .h (resetBit 3 (s.reg .h)) s

/-- RES 4,H -/
def execRes_4_h (s : State) : Result := loadReg .h (resetBit 4 (s.reg .h)) s

/-- RES 5,H -/
def execRes_5_h (s : State) : Result := loadReg .h (resetBit 5 (s.reg .h)) s

/-- RES 6,H -/
def execRes_6_h (s : State) : Result := loadReg .h (resetBit 6 (s.reg .h)) s

/-- RES 7,H -/
def execRes_7_h (s : State) : Result := loadReg .h (resetBit 7 (s.reg .h)) s

/-- RES 0,L -/
def execRes_0_l (s : State) : Result := loadReg .l (resetBit 0 (s.reg .l)) s

/-- RES 1,L -/
def execRes_1_l (s : State) : Result := loadReg .l (resetBit 1 (s.reg .l)) s

/-- RES 2,L -/
def execRes_2_l (s : State) : Result := loadReg .l (resetBit 2 (s.reg .l)) s

/-- RES 3,L -/
def execRes_3_l (s : State) : Result := loadReg .l (resetBit 3 (s.reg .l)) s

/-- RES 4,L -/
def execRes_4_l (s : State) : Result := loadReg .l (resetBit 4 (s.reg .l)) s

/-- RES 5,L -/
def execRes_5_l (s : State) : Result := loadReg .l (resetBit 5 (s.reg .l)) s

/-- RES 6,L -/
def execRes_6_l (s : State) : Result := loadReg .l (resetBit 6 (s.reg .l)) s

/-- RES 7,L -/
def execRes_7_l (s : State) : Result := loadReg .l (resetBit 7 (s.reg .l)) s

/-! #### R365 -/

/-- RES 0,(HL) -/
def execRes_0_atHL (s : State) : Result := storeByte s.hl (resetBit 0 s.atHL) s

/-- RES 1,(HL) -/
def execRes_1_atHL (s : State) : Result := storeByte s.hl (resetBit 1 s.atHL) s

/-- RES 2,(HL) -/
def execRes_2_atHL (s : State) : Result := storeByte s.hl (resetBit 2 s.atHL) s

/-- RES 3,(HL) -/
def execRes_3_atHL (s : State) : Result := storeByte s.hl (resetBit 3 s.atHL) s

/-- RES 4,(HL) -/
def execRes_4_atHL (s : State) : Result := storeByte s.hl (resetBit 4 s.atHL) s

/-- RES 5,(HL) -/
def execRes_5_atHL (s : State) : Result := storeByte s.hl (resetBit 5 s.atHL) s

/-- RES 6,(HL) -/
def execRes_6_atHL (s : State) : Result := storeByte s.hl (resetBit 6 s.atHL) s

/-- RES 7,(HL) -/
def execRes_7_atHL (s : State) : Result := storeByte s.hl (resetBit 7 s.atHL) s

/-! #### R364 -/

/-- RES 0,A -/
def execRes_0_a (s : State) : Result := loadReg .a (resetBit 0 (s.reg .a)) s

/-- RES 1,A -/
def execRes_1_a (s : State) : Result := loadReg .a (resetBit 1 (s.reg .a)) s

/-- RES 2,A -/
def execRes_2_a (s : State) : Result := loadReg .a (resetBit 2 (s.reg .a)) s

/-- RES 3,A -/
def execRes_3_a (s : State) : Result := loadReg .a (resetBit 3 (s.reg .a)) s

/-- RES 4,A -/
def execRes_4_a (s : State) : Result := loadReg .a (resetBit 4 (s.reg .a)) s

/-- RES 5,A -/
def execRes_5_a (s : State) : Result := loadReg .a (resetBit 5 (s.reg .a)) s

/-- RES 6,A -/
def execRes_6_a (s : State) : Result := loadReg .a (resetBit 6 (s.reg .a)) s

/-- RES 7,A -/
def execRes_7_a (s : State) : Result := loadReg .a (resetBit 7 (s.reg .a)) s

/-! #### R362 -/

/-- SET 0,B -/
def execSet_0_b (s : State) : Result := loadReg .b (setBit 0 (s.reg .b)) s

/-- SET 1,B -/
def execSet_1_b (s : State) : Result := loadReg .b (setBit 1 (s.reg .b)) s

/-- SET 2,B -/
def execSet_2_b (s : State) : Result := loadReg .b (setBit 2 (s.reg .b)) s

/-- SET 3,B -/
def execSet_3_b (s : State) : Result := loadReg .b (setBit 3 (s.reg .b)) s

/-- SET 4,B -/
def execSet_4_b (s : State) : Result := loadReg .b (setBit 4 (s.reg .b)) s

/-- SET 5,B -/
def execSet_5_b (s : State) : Result := loadReg .b (setBit 5 (s.reg .b)) s

/-- SET 6,B -/
def execSet_6_b (s : State) : Result := loadReg .b (setBit 6 (s.reg .b)) s

/-- SET 7,B -/
def execSet_7_b (s : State) : Result := loadReg .b (setBit 7 (s.reg .b)) s

/-- SET 0,C -/
def execSet_0_c (s : State) : Result := loadReg .c (setBit 0 (s.reg .c)) s

/-- SET 1,C -/
def execSet_1_c (s : State) : Result := loadReg .c (setBit 1 (s.reg .c)) s

/-- SET 2,C -/
def execSet_2_c (s : State) : Result := loadReg .c (setBit 2 (s.reg .c)) s

/-- SET 3,C -/
def execSet_3_c (s : State) : Result := loadReg .c (setBit 3 (s.reg .c)) s

/-- SET 4,C -/
def execSet_4_c (s : State) : Result := loadReg .c (setBit 4 (s.reg .c)) s

/-- SET 5,C -/
def execSet_5_c (s : State) : Result := loadReg .c (setBit 5 (s.reg .c)) s

/-- SET 6,C -/
def execSet_6_c (s : State) : Result := loadReg .c (setBit 6 (s.reg .c)) s

/-- SET 7,C -/
def execSet_7_c (s : State) : Result := loadReg .c (setBit 7 (s.reg .c)) s

/-- SET 0,D -/
def execSet_0_d (s : State) : Result := loadReg .d (setBit 0 (s.reg .d)) s

/-- SET 1,D -/
def execSet_1_d (s : State) : Result := loadReg .d (setBit 1 (s.reg .d)) s

/-- SET 2,D -/
def execSet_2_d (s : State) : Result := loadReg .d (setBit 2 (s.reg .d)) s

/-- SET 3,D -/
def execSet_3_d (s : State) : Result := loadReg .d (setBit 3 (s.reg .d)) s

/-- SET 4,D -/
def execSet_4_d (s : State) : Result := loadReg .d (setBit 4 (s.reg .d)) s

/-- SET 5,D -/
def execSet_5_d (s : State) : Result := loadReg .d (setBit 5 (s.reg .d)) s

/-- SET 6,D -/
def execSet_6_d (s : State) : Result := loadReg .d (setBit 6 (s.reg .d)) s

/-- SET 7,D -/
def execSet_7_d (s : State) : Result := loadReg .d (setBit 7 (s.reg .d)) s

/-- SET 0,E -/
def execSet_0_e (s : State) : Result := loadReg .e (setBit 0 (s.reg .e)) s

/-- SET 1,E -/
def execSet_1_e (s : State) : Result := loadReg .e (setBit 1 (s.reg .e)) s

/-- SET 2,E -/
def execSet_2_e (s : State) : Result := loadReg .e (setBit 2 (s.reg .e)) s

/-- SET 3,E -/
def execSet_3_e (s : State) : Result := loadReg .e (setBit 3 (s.reg .e)) s

/-- SET 4,E -/
def execSet_4_e (s : State) : Result := loadReg .e (setBit 4 (s.reg .e)) s

/-- SET 5,E -/
def execSet_5_e (s : State) : Result := loadReg .e (setBit 5 (s.reg .e)) s

/-- SET 6,E -/
def execSet_6_e (s : State) : Result := loadReg .e (setBit 6 (s.reg .e)) s

/-- SET 7,E -/
def execSet_7_e (s : State) : Result := loadReg .e (setBit 7 (s.reg .e)) s

/-- SET 0,H -/
def execSet_0_h (s : State) : Result := loadReg .h (setBit 0 (s.reg .h)) s

/-- SET 1,H -/
def execSet_1_h (s : State) : Result := loadReg .h (setBit 1 (s.reg .h)) s

/-- SET 2,H -/
def execSet_2_h (s : State) : Result := loadReg .h (setBit 2 (s.reg .h)) s

/-- SET 3,H -/
def execSet_3_h (s : State) : Result := loadReg .h (setBit 3 (s.reg .h)) s

/-- SET 4,H -/
def execSet_4_h (s : State) : Result := loadReg .h (setBit 4 (s.reg .h)) s

/-- SET 5,H -/
def execSet_5_h (s : State) : Result := loadReg .h (setBit 5 (s.reg .h)) s

/-- SET 6,H -/
def execSet_6_h (s : State) : Result := loadReg .h (setBit 6 (s.reg .h)) s

/-- SET 7,H -/
def execSet_7_h (s : State) : Result := loadReg .h (setBit 7 (s.reg .h)) s

/-- SET 0,L -/
def execSet_0_l (s : State) : Result := loadReg .l (setBit 0 (s.reg .l)) s

/-- SET 1,L -/
def execSet_1_l (s : State) : Result := loadReg .l (setBit 1 (s.reg .l)) s

/-- SET 2,L -/
def execSet_2_l (s : State) : Result := loadReg .l (setBit 2 (s.reg .l)) s

/-- SET 3,L -/
def execSet_3_l (s : State) : Result := loadReg .l (setBit 3 (s.reg .l)) s

/-- SET 4,L -/
def execSet_4_l (s : State) : Result := loadReg .l (setBit 4 (s.reg .l)) s

/-- SET 5,L -/
def execSet_5_l (s : State) : Result := loadReg .l (setBit 5 (s.reg .l)) s

/-- SET 6,L -/
def execSet_6_l (s : State) : Result := loadReg .l (setBit 6 (s.reg .l)) s

/-- SET 7,L -/
def execSet_7_l (s : State) : Result := loadReg .l (setBit 7 (s.reg .l)) s

/-! #### R363 -/

/-- SET 0,(HL) -/
def execSet_0_atHL (s : State) : Result := storeByte s.hl (setBit 0 s.atHL) s

/-- SET 1,(HL) -/
def execSet_1_atHL (s : State) : Result := storeByte s.hl (setBit 1 s.atHL) s

/-- SET 2,(HL) -/
def execSet_2_atHL (s : State) : Result := storeByte s.hl (setBit 2 s.atHL) s

/-- SET 3,(HL) -/
def execSet_3_atHL (s : State) : Result := storeByte s.hl (setBit 3 s.atHL) s

/-- SET 4,(HL) -/
def execSet_4_atHL (s : State) : Result := storeByte s.hl (setBit 4 s.atHL) s

/-- SET 5,(HL) -/
def execSet_5_atHL (s : State) : Result := storeByte s.hl (setBit 5 s.atHL) s

/-- SET 6,(HL) -/
def execSet_6_atHL (s : State) : Result := storeByte s.hl (setBit 6 s.atHL) s

/-- SET 7,(HL) -/
def execSet_7_atHL (s : State) : Result := storeByte s.hl (setBit 7 s.atHL) s

/-! #### R362 -/

/-- SET 0,A -/
def execSet_0_a (s : State) : Result := loadReg .a (setBit 0 (s.reg .a)) s

/-- SET 1,A -/
def execSet_1_a (s : State) : Result := loadReg .a (setBit 1 (s.reg .a)) s

/-- SET 2,A -/
def execSet_2_a (s : State) : Result := loadReg .a (setBit 2 (s.reg .a)) s

/-- SET 3,A -/
def execSet_3_a (s : State) : Result := loadReg .a (setBit 3 (s.reg .a)) s

/-- SET 4,A -/
def execSet_4_a (s : State) : Result := loadReg .a (setBit 4 (s.reg .a)) s

/-- SET 5,A -/
def execSet_5_a (s : State) : Result := loadReg .a (setBit 5 (s.reg .a)) s

/-- SET 6,A -/
def execSet_6_a (s : State) : Result := loadReg .a (setBit 6 (s.reg .a)) s

/-- SET 7,A -/
def execSet_7_a (s : State) : Result := loadReg .a (setBit 7 (s.reg .a)) s

end Sys2Proof.Machine
end

