-- ==== Sys2Proof/Machine/Control.lean ====
section
/-! DEFINITION. Control transfer (42_control.md R330 to R341). PC is already past the instruction.
One definition per instruction. -/

namespace Sys2Proof.Machine

/-- `PC <- t` (R332, R334). -/
def jump (t : Word) (s : State) : Result := .next (s.setPc t)

/-- `if cond(cc) then PC <- t` (R333, R335). -/
def jumpIf (cc : Cond) (t : Word) (s : State) : Result :=
  .next (if s.cond cc then s.setPc t else s)

/-- `B <- Byte(B - 1); if B != 0 then PC <- target` (R336). -/
def decrementAndJump (e : Byte) (s : State) : Result :=
  let t := s.setReg .b (s.b - 1)
  .next (if t.b ≠ 0 then t.setPc (t.relTarget e) else t)

/-- `push16(PC); PC <- t` (R337, R341). -/
def call (t : Word) (s : State) : Result := .next ((s.push16 s.pc).setPc t)

/-- `if cond(cc) then { push16(PC); PC <- t }` (R338). -/
def callIf (cc : Cond) (t : Word) (s : State) : Result :=
  .next (if s.cond cc then (s.push16 s.pc).setPc t else s)

/-- `PC <- pop16()` (R339). -/
def ret (s : State) : Result := .next s.popPc

/-- `if cond(cc) then PC <- pop16()` (R340). -/
def retIf (cc : Cond) (s : State) : Result := .next (if s.cond cc then s.popPc else s)

/-! #### R332 -/

/-- JP nn -/
def execJp_nn (nn : Word) (s : State) : Result := jump nn s

/-! #### R333 -/

/-- JP NZ,nn -/
def execJp_nz_nn (nn : Word) (s : State) : Result := jumpIf .nz nn s

/-- JP Z,nn -/
def execJp_z_nn (nn : Word) (s : State) : Result := jumpIf .z nn s

/-- JP NC,nn -/
def execJp_nc_nn (nn : Word) (s : State) : Result := jumpIf .nc nn s

/-- JP C,nn -/
def execJp_c_nn (nn : Word) (s : State) : Result := jumpIf .c nn s

/-! #### R334 -/

/-- JR e -/
def execJr_e (e : Byte) (s : State) : Result := jump (s.relTarget e) s

/-! #### R335 -/

/-- JR NZ,e -/
def execJr_nz_e (e : Byte) (s : State) : Result := jumpIf .nz (s.relTarget e) s

/-- JR Z,e -/
def execJr_z_e (e : Byte) (s : State) : Result := jumpIf .z (s.relTarget e) s

/-- JR NC,e -/
def execJr_nc_e (e : Byte) (s : State) : Result := jumpIf .nc (s.relTarget e) s

/-- JR C,e -/
def execJr_c_e (e : Byte) (s : State) : Result := jumpIf .c (s.relTarget e) s

/-! #### R336 -/

/-- DJNZ e -/
def execDjnz_e (e : Byte) (s : State) : Result := decrementAndJump e s

/-! #### R337 -/

/-- CALL nn -/
def execCall_nn (nn : Word) (s : State) : Result := call nn s

/-! #### R338 -/

/-- CALL NZ,nn -/
def execCall_nz_nn (nn : Word) (s : State) : Result := callIf .nz nn s

/-- CALL Z,nn -/
def execCall_z_nn (nn : Word) (s : State) : Result := callIf .z nn s

/-- CALL NC,nn -/
def execCall_nc_nn (nn : Word) (s : State) : Result := callIf .nc nn s

/-- CALL C,nn -/
def execCall_c_nn (nn : Word) (s : State) : Result := callIf .c nn s

/-! #### R339 -/

/-- RET -/
def execRet (s : State) : Result := ret s

/-! #### R340 -/

/-- RET NZ -/
def execRet_nz (s : State) : Result := retIf .nz s

/-- RET Z -/
def execRet_z (s : State) : Result := retIf .z s

/-- RET NC -/
def execRet_nc (s : State) : Result := retIf .nc s

/-- RET C -/
def execRet_c (s : State) : Result := retIf .c s

/-! #### R341 -/

/-- RST 00H -/
def execRst_00 (s : State) : Result := call (rstVector 0) s

/-- RST 08H -/
def execRst_08 (s : State) : Result := call (rstVector 1) s

/-- RST 10H -/
def execRst_10 (s : State) : Result := call (rstVector 2) s

/-- RST 18H -/
def execRst_18 (s : State) : Result := call (rstVector 3) s

/-- RST 20H -/
def execRst_20 (s : State) : Result := call (rstVector 4) s

/-- RST 28H -/
def execRst_28 (s : State) : Result := call (rstVector 5) s

/-- RST 30H -/
def execRst_30 (s : State) : Result := call (rstVector 6) s

/-- RST 38H -/
def execRst_38 (s : State) : Result := call (rstVector 7) s

end Sys2Proof.Machine
end

