-- ==== Sys2Proof/Machine/Extended.lean ====
section
/-! DEFINITION. The extended prefix 0xED (44_prefix_ed.md R390 to R396).
One definition per instruction. -/

namespace Sys2Proof.Machine

/-- NEG: `(A, F) <- sub8(0, A, 0)` (R390). -/
def negateA (s : State) : Result :=
  let p := sub8 0 s.a false
  .next ((s.setReg .a p.1).setF p.2)

/-! #### R390 -/

/-- NEG -/
def execNeg (s : State) : Result := negateA s

/-! #### R391 -/

/-- LD BC,(nn) -/
def execLd_bc_atNN (nn : Word) (s : State) : Result := loadReg16 .bc (s.readWord nn) s

/-! #### R392 -/

/-- LD DE,(nn) -/
def execLd_de_atNN (nn : Word) (s : State) : Result := loadReg16 .de (s.readWord nn) s

/-! #### R393 -/

/-- LD (nn),BC -/
def execLd_atNN_bc (nn : Word) (s : State) : Result := storeWord nn (s.reg16 .bc) s

/-! #### R394 -/

/-- LD (nn),DE -/
def execLd_atNN_de (nn : Word) (s : State) : Result := storeWord nn (s.reg16 .de) s

/-! #### R395 -/

/-- LD SP,(nn) -/
def execLd_sp_atNN (nn : Word) (s : State) : Result := loadReg16 .sp (s.readWord nn) s

/-! #### R396 -/

/-- LD (nn),SP -/
def execLd_atNN_sp (nn : Word) (s : State) : Result := storeWord nn (s.reg16 .sp) s

end Sys2Proof.Machine
end

