-- ==== Sys2Proof/Machine/Halt.lean ====
section
/-! DEFINITION. HALT: the frame tick and the stop halted-no-keys (46_halt_host.md R440 to R443).
One definition per instruction. -/

namespace Sys2Proof.Machine

/-- `MemRead(K, W)`: the last-key cell (R441, R442). -/
def State.lastKey (s : State) : Word :=
  match s.cfg.keyWidth with
  | .one => zext16 (s.readByte s.cfg.lastKeyAddr)
  | .two => s.readWord s.cfg.lastKeyAddr

/-- `MemWrite(K, W, v)` (R441). -/
def State.setLastKey (s : State) (v : Word) : State :=
  match s.cfg.keyWidth with
  | .one => s.writeByte s.cfg.lastKeyAddr (loByte v)
  | .two => s.writeWord s.cfg.lastKeyAddr v

/-- The test of R442, made before anything is popped or written. -/
def State.haltStops (s : State) : Bool :=
  s.haltPolicy && decide (s.queue = []) && decide (s.lastKey = s.cfg.noKeyValue)

/-- HALT: stop with PC at the HALT, one byte back (R442), or write the head of the queue, or the no-key value, to
the last-key cell (R441). -/
def haltTick (s : State) : Result :=
  if s.haltStops then .next ((s.setPc (s.pc - 1)).stop .haltedNoKeys)
  else
    match s.queue with
    | v :: rest => .next ({ s with queue := rest }.setLastKey v)
    | [] => .next (s.setLastKey s.cfg.noKeyValue)

/-! #### R440 -/

/-- HALT -/
def execHalt (s : State) : Result := haltTick s

end Sys2Proof.Machine
end

