-- ==== Sys2Proof/Machine/IncDec.lean ====
section
/-! DEFINITION. 16-bit add into HL, and increment and decrement (41_arith_logic.md R295, R300 to R305).
One definition per instruction. -/

namespace Sys2Proof.Machine

/-- `(dst, F) <- add16(dst, src)`, bits 5 and 3 unsettled (R295, R423). -/
def addInto (dst src : Reg16) (s : State) : Result :=
  let p := add16 (s.reg16 dst) (s.reg16 src) s.f
  .next (((s.setReg16 dst p.1).setF p.2).settle unsettledAdd16)

/-- The flag byte of an 8-bit INC (R300). -/
def incFlags (f res : Byte) : Byte := sz8 f res

/-- The flag byte of an 8-bit DEC (R302). -/
def decFlags (f res : Byte) : Byte := setFlag (sz8 f res) .n true

/-- INC r (R300). -/
def incReg (r : Reg8) (s : State) : Result :=
  let res := s.reg r + 1
  .next (((s.setReg r res).setF (incFlags s.f res)).settle unsettledInc8)

/-- INC (HL) (R301). -/
def incMem (s : State) : Result :=
  let res := s.atHL + 1
  .next (((s.writeByte s.hl res).setF (incFlags s.f res)).settle unsettledInc8)

/-- DEC r (R302). -/
def decReg (r : Reg8) (s : State) : Result :=
  let res := s.reg r - 1
  .next (((s.setReg r res).setF (decFlags s.f res)).settle unsettledDec8)

/-- DEC (HL) (R303). -/
def decMem (s : State) : Result :=
  let res := s.atHL - 1
  .next (((s.writeByte s.hl res).setF (decFlags s.f res)).settle unsettledDec8)

/-- INC rr (R304). -/
def incReg16 (r : Reg16) (s : State) : Result :=
  .next ((s.setReg16 r (s.reg16 r + 1)).settle unsettledInc16)

/-- DEC rr (R305). -/
def decReg16 (r : Reg16) (s : State) : Result :=
  .next ((s.setReg16 r (s.reg16 r - 1)).settle unsettledInc16)

/-! #### R295 -/

/-- ADD HL,BC -/
def execAdd_hl_bc (s : State) : Result := addInto .hl .bc s

/-- ADD HL,DE -/
def execAdd_hl_de (s : State) : Result := addInto .hl .de s

/-- ADD HL,HL -/
def execAdd_hl_hl (s : State) : Result := addInto .hl .hl s

/-- ADD HL,SP -/
def execAdd_hl_sp (s : State) : Result := addInto .hl .sp s

/-! #### R300 -/

/-- INC B -/
def execInc_b (s : State) : Result := incReg .b s

/-! #### R302 -/

/-- DEC B -/
def execDec_b (s : State) : Result := decReg .b s

/-! #### R300 -/

/-- INC C -/
def execInc_c (s : State) : Result := incReg .c s

/-! #### R302 -/

/-- DEC C -/
def execDec_c (s : State) : Result := decReg .c s

/-! #### R300 -/

/-- INC D -/
def execInc_d (s : State) : Result := incReg .d s

/-! #### R302 -/

/-- DEC D -/
def execDec_d (s : State) : Result := decReg .d s

/-! #### R300 -/

/-- INC E -/
def execInc_e (s : State) : Result := incReg .e s

/-! #### R302 -/

/-- DEC E -/
def execDec_e (s : State) : Result := decReg .e s

/-! #### R300 -/

/-- INC H -/
def execInc_h (s : State) : Result := incReg .h s

/-! #### R302 -/

/-- DEC H -/
def execDec_h (s : State) : Result := decReg .h s

/-! #### R300 -/

/-- INC L -/
def execInc_l (s : State) : Result := incReg .l s

/-! #### R302 -/

/-- DEC L -/
def execDec_l (s : State) : Result := decReg .l s

/-! #### R301 -/

/-- INC (HL) -/
def execInc_atHL (s : State) : Result := incMem s

/-! #### R303 -/

/-- DEC (HL) -/
def execDec_atHL (s : State) : Result := decMem s

/-! #### R300 -/

/-- INC A -/
def execInc_a (s : State) : Result := incReg .a s

/-! #### R302 -/

/-- DEC A -/
def execDec_a (s : State) : Result := decReg .a s

/-! #### R304 -/

/-- INC BC -/
def execInc_bc (s : State) : Result := incReg16 .bc s

/-! #### R305 -/

/-- DEC BC -/
def execDec_bc (s : State) : Result := decReg16 .bc s

/-! #### R304 -/

/-- INC DE -/
def execInc_de (s : State) : Result := incReg16 .de s

/-! #### R305 -/

/-- DEC DE -/
def execDec_de (s : State) : Result := decReg16 .de s

/-! #### R304 -/

/-- INC HL -/
def execInc_hl (s : State) : Result := incReg16 .hl s

/-! #### R305 -/

/-- DEC HL -/
def execDec_hl (s : State) : Result := decReg16 .hl s

/-! #### R304 -/

/-- INC SP -/
def execInc_sp (s : State) : Result := incReg16 .sp s

/-! #### R305 -/

/-- DEC SP -/
def execDec_sp (s : State) : Result := decReg16 .sp s

end Sys2Proof.Machine
end

