-- ==== Sys2Proof/Machine/Stack.lean ====
section
/-! DEFINITION. Stack push and pop, and the exchange (40_loads_stack.md R230 to R240).
One definition per instruction. -/

namespace Sys2Proof.Machine

/-- `push16(qq)` (R230, R232, R412). -/
def pushReg16 (r : Reg16) (s : State) : Result := .next (s.push16 (s.reg16 r))

/-- `qq <- pop16()` (R234, R236, R413): the word is read, SP rises, then the pair is written. -/
def popReg16 (r : Reg16) (s : State) : Result := .next (s.dropTop.setReg16 r s.top16)

/-- `t <- DE; DE <- HL; HL <- t` (R240). -/
def exchangeDeHl (s : State) : Result :=
  .next ((s.setReg16 .de (s.reg16 .hl)).setReg16 .hl (s.reg16 .de))

/-! #### R230 -/

/-- PUSH BC -/
def execPush_bc (s : State) : Result := pushReg16 .bc s

/-- PUSH DE -/
def execPush_de (s : State) : Result := pushReg16 .de s

/-- PUSH HL -/
def execPush_hl (s : State) : Result := pushReg16 .hl s

/-! #### R232 -/

/-- PUSH AF -/
def execPush_af (s : State) : Result := pushReg16 .af s

/-! #### R234 -/

/-- POP BC -/
def execPop_bc (s : State) : Result := popReg16 .bc s

/-- POP DE -/
def execPop_de (s : State) : Result := popReg16 .de s

/-- POP HL -/
def execPop_hl (s : State) : Result := popReg16 .hl s

/-! #### R236 -/

/-- POP AF -/
def execPop_af (s : State) : Result := popReg16 .af s

/-! #### R240 -/

/-- EX DE,HL -/
def execEx_de_hl (s : State) : Result := exchangeDeHl s

end Sys2Proof.Machine
end

