-- ==== Sys2Proof/Machine/Indexed.lean ====
section
/-! DEFINITION. The indexed prefixes 0xDD and 0xFD (45_prefix_index.md R410 to R423). IX rows follow prefix 0xDD,
IY rows 0xFD.
One definition per instruction. -/

namespace Sys2Proof.Machine

/-! #### R411 -/

/-- LD IX,nn -/
def execLd_ix_nn (nn : Word) (s : State) : Result := loadReg16 .ix nn s

/-! #### R412 -/

/-- PUSH IX -/
def execPush_ix (s : State) : Result := pushReg16 .ix s

/-! #### R413 -/

/-- POP IX -/
def execPop_ix (s : State) : Result := popReg16 .ix s

/-! #### R414 -/

/-- LD B,(IX+d) -/
def execLd_b_atIX (d : Byte) (s : State) : Result := loadReg .b (s.readByte (s.idxAddr .ix d)) s

/-- LD C,(IX+d) -/
def execLd_c_atIX (d : Byte) (s : State) : Result := loadReg .c (s.readByte (s.idxAddr .ix d)) s

/-- LD D,(IX+d) -/
def execLd_d_atIX (d : Byte) (s : State) : Result := loadReg .d (s.readByte (s.idxAddr .ix d)) s

/-- LD E,(IX+d) -/
def execLd_e_atIX (d : Byte) (s : State) : Result := loadReg .e (s.readByte (s.idxAddr .ix d)) s

/-- LD H,(IX+d) -/
def execLd_h_atIX (d : Byte) (s : State) : Result := loadReg .h (s.readByte (s.idxAddr .ix d)) s

/-- LD L,(IX+d) -/
def execLd_l_atIX (d : Byte) (s : State) : Result := loadReg .l (s.readByte (s.idxAddr .ix d)) s

/-- LD A,(IX+d) -/
def execLd_a_atIX (d : Byte) (s : State) : Result := loadReg .a (s.readByte (s.idxAddr .ix d)) s

/-! #### R423 -/

/-- ADD IX,BC -/
def execAdd_ix_bc (s : State) : Result := addInto .ix .bc s

/-- ADD IX,DE -/
def execAdd_ix_de (s : State) : Result := addInto .ix .de s

/-- ADD IX,IX -/
def execAdd_ix_ix (s : State) : Result := addInto .ix .ix s

/-- ADD IX,SP -/
def execAdd_ix_sp (s : State) : Result := addInto .ix .sp s

/-! #### R411 -/

/-- LD IY,nn -/
def execLd_iy_nn (nn : Word) (s : State) : Result := loadReg16 .iy nn s

/-! #### R412 -/

/-- PUSH IY -/
def execPush_iy (s : State) : Result := pushReg16 .iy s

/-! #### R413 -/

/-- POP IY -/
def execPop_iy (s : State) : Result := popReg16 .iy s

/-! #### R414 -/

/-- LD B,(IY+d) -/
def execLd_b_atIY (d : Byte) (s : State) : Result := loadReg .b (s.readByte (s.idxAddr .iy d)) s

/-- LD C,(IY+d) -/
def execLd_c_atIY (d : Byte) (s : State) : Result := loadReg .c (s.readByte (s.idxAddr .iy d)) s

/-- LD D,(IY+d) -/
def execLd_d_atIY (d : Byte) (s : State) : Result := loadReg .d (s.readByte (s.idxAddr .iy d)) s

/-- LD E,(IY+d) -/
def execLd_e_atIY (d : Byte) (s : State) : Result := loadReg .e (s.readByte (s.idxAddr .iy d)) s

/-- LD H,(IY+d) -/
def execLd_h_atIY (d : Byte) (s : State) : Result := loadReg .h (s.readByte (s.idxAddr .iy d)) s

/-- LD L,(IY+d) -/
def execLd_l_atIY (d : Byte) (s : State) : Result := loadReg .l (s.readByte (s.idxAddr .iy d)) s

/-- LD A,(IY+d) -/
def execLd_a_atIY (d : Byte) (s : State) : Result := loadReg .a (s.readByte (s.idxAddr .iy d)) s

/-! #### R423 -/

/-- ADD IY,BC -/
def execAdd_iy_bc (s : State) : Result := addInto .iy .bc s

/-- ADD IY,DE -/
def execAdd_iy_de (s : State) : Result := addInto .iy .de s

/-- ADD IY,IY -/
def execAdd_iy_iy (s : State) : Result := addInto .iy .iy s

/-- ADD IY,SP -/
def execAdd_iy_sp (s : State) : Result := addInto .iy .sp s

end Sys2Proof.Machine
end

