-- ==== Sys2Proof/Machine/Rotate.lean ====
section
/-! DEFINITION. Rotate accumulator, carry and accumulator complement (41_arith_logic.md R310 to R322).
One definition per instruction. -/

namespace Sys2Proof.Machine

/-- The new A and Carry of a rotate (R310 to R313); `c` is the old Carry. -/
def rotated (op : RotOp) (a : Byte) (c : Bool) : Byte × Bool :=
  match op with
  | .rlca => ((a <<< 1) ||| (if a.getLsbD 7 then 0x01 else 0x00), a.getLsbD 7)
  | .rrca => ((a >>> 1) ||| (if a.getLsbD 0 then 0x80 else 0x00), a.getLsbD 0)
  | .rla => ((a <<< 1) ||| (if c then 0x01 else 0x00), a.getLsbD 7)
  | .rra => ((a >>> 1) ||| (if c then 0x80 else 0x00), a.getLsbD 0)

/-- A rotate of A: only C of the flags is written. -/
def rotateA (op : RotOp) (s : State) : Result :=
  let p := rotated op s.a (s.flag .c)
  .next ((s.setReg .a p.1).setF (setFlag s.f .c p.2))

/-- SCF: `C <- 1; H <- 0; N <- 0` (R320). -/
def setCarry (s : State) : Result :=
  .next ((s.setF (setFlag (setFlag (setFlag s.f .c true) .h false) .n false)).settle unsettledCarry)

/-- CCF: `c <- C; C <- 1 - c; H <- c; N <- 0` (R321). -/
def complementCarry (s : State) : Result :=
  let c := s.flag .c
  .next ((s.setF (setFlag (setFlag (setFlag s.f .c (!c)) .h c) .n false)).settle unsettledCarry)

/-- CPL: `A <- ~A; H <- 1; N <- 1` (R322). -/
def complementA (s : State) : Result :=
  .next (((s.setReg .a (~~~s.a)).setF (setFlag (setFlag s.f .h true) .n true)).settle unsettledCarry)

/-! #### R310 -/

/-- RLCA -/
def execRlca (s : State) : Result := rotateA .rlca s

/-! #### R311 -/

/-- RRCA -/
def execRrca (s : State) : Result := rotateA .rrca s

/-! #### R312 -/

/-- RLA -/
def execRla (s : State) : Result := rotateA .rla s

/-! #### R313 -/

/-- RRA -/
def execRra (s : State) : Result := rotateA .rra s

/-! #### R320 -/

/-- SCF -/
def execScf (s : State) : Result := setCarry s

/-! #### R321 -/

/-- CCF -/
def execCcf (s : State) : Result := complementCarry s

/-! #### R322 -/

/-- CPL -/
def execCpl (s : State) : Result := complementA s

end Sys2Proof.Machine
end

