-- ==== Sys2Proof/Machine/Dispatch.lean ====
section
/-! DEFINITION. exec: one arm per constructor of Instr, in the table's order. The state it is given is the one after
the fetch: PC is past the instruction (00_scope.md R13). -/

namespace Sys2Proof.Machine

def exec (i : Instr) (s : State) : Host.Outcome State Fault Refusal :=
  match i with
  | .nop => Sys2Proof.Machine.execNop s
  | .ld_b_b => Sys2Proof.Machine.execLd_b_b s
  | .ld_b_c => Sys2Proof.Machine.execLd_b_c s
  | .ld_b_d => Sys2Proof.Machine.execLd_b_d s
  | .ld_b_e => Sys2Proof.Machine.execLd_b_e s
  | .ld_b_h => Sys2Proof.Machine.execLd_b_h s
  | .ld_b_l => Sys2Proof.Machine.execLd_b_l s
  | .ld_b_atHL => Sys2Proof.Machine.execLd_b_atHL s
  | .ld_b_a => Sys2Proof.Machine.execLd_b_a s
  | .ld_c_b => Sys2Proof.Machine.execLd_c_b s
  | .ld_c_c => Sys2Proof.Machine.execLd_c_c s
  | .ld_c_d => Sys2Proof.Machine.execLd_c_d s
  | .ld_c_e => Sys2Proof.Machine.execLd_c_e s
  | .ld_c_h => Sys2Proof.Machine.execLd_c_h s
  | .ld_c_l => Sys2Proof.Machine.execLd_c_l s
  | .ld_c_atHL => Sys2Proof.Machine.execLd_c_atHL s
  | .ld_c_a => Sys2Proof.Machine.execLd_c_a s
  | .ld_d_b => Sys2Proof.Machine.execLd_d_b s
  | .ld_d_c => Sys2Proof.Machine.execLd_d_c s
  | .ld_d_d => Sys2Proof.Machine.execLd_d_d s
  | .ld_d_e => Sys2Proof.Machine.execLd_d_e s
  | .ld_d_h => Sys2Proof.Machine.execLd_d_h s
  | .ld_d_l => Sys2Proof.Machine.execLd_d_l s
  | .ld_d_atHL => Sys2Proof.Machine.execLd_d_atHL s
  | .ld_d_a => Sys2Proof.Machine.execLd_d_a s
  | .ld_e_b => Sys2Proof.Machine.execLd_e_b s
  | .ld_e_c => Sys2Proof.Machine.execLd_e_c s
  | .ld_e_d => Sys2Proof.Machine.execLd_e_d s
  | .ld_e_e => Sys2Proof.Machine.execLd_e_e s
  | .ld_e_h => Sys2Proof.Machine.execLd_e_h s
  | .ld_e_l => Sys2Proof.Machine.execLd_e_l s
  | .ld_e_atHL => Sys2Proof.Machine.execLd_e_atHL s
  | .ld_e_a => Sys2Proof.Machine.execLd_e_a s
  | .ld_h_b => Sys2Proof.Machine.execLd_h_b s
  | .ld_h_c => Sys2Proof.Machine.execLd_h_c s
  | .ld_h_d => Sys2Proof.Machine.execLd_h_d s
  | .ld_h_e => Sys2Proof.Machine.execLd_h_e s
  | .ld_h_h => Sys2Proof.Machine.execLd_h_h s
  | .ld_h_l => Sys2Proof.Machine.execLd_h_l s
  | .ld_h_atHL => Sys2Proof.Machine.execLd_h_atHL s
  | .ld_h_a => Sys2Proof.Machine.execLd_h_a s
  | .ld_l_b => Sys2Proof.Machine.execLd_l_b s
  | .ld_l_c => Sys2Proof.Machine.execLd_l_c s
  | .ld_l_d => Sys2Proof.Machine.execLd_l_d s
  | .ld_l_e => Sys2Proof.Machine.execLd_l_e s
  | .ld_l_h => Sys2Proof.Machine.execLd_l_h s
  | .ld_l_l => Sys2Proof.Machine.execLd_l_l s
  | .ld_l_atHL => Sys2Proof.Machine.execLd_l_atHL s
  | .ld_l_a => Sys2Proof.Machine.execLd_l_a s
  | .ld_atHL_b => Sys2Proof.Machine.execLd_atHL_b s
  | .ld_atHL_c => Sys2Proof.Machine.execLd_atHL_c s
  | .ld_atHL_d => Sys2Proof.Machine.execLd_atHL_d s
  | .ld_atHL_e => Sys2Proof.Machine.execLd_atHL_e s
  | .ld_atHL_h => Sys2Proof.Machine.execLd_atHL_h s
  | .ld_atHL_l => Sys2Proof.Machine.execLd_atHL_l s
  | .ld_atHL_a => Sys2Proof.Machine.execLd_atHL_a s
  | .ld_a_b => Sys2Proof.Machine.execLd_a_b s
  | .ld_a_c => Sys2Proof.Machine.execLd_a_c s
  | .ld_a_d => Sys2Proof.Machine.execLd_a_d s
  | .ld_a_e => Sys2Proof.Machine.execLd_a_e s
  | .ld_a_h => Sys2Proof.Machine.execLd_a_h s
  | .ld_a_l => Sys2Proof.Machine.execLd_a_l s
  | .ld_a_atHL => Sys2Proof.Machine.execLd_a_atHL s
  | .ld_a_a => Sys2Proof.Machine.execLd_a_a s
  | .ld_b_n n => Sys2Proof.Machine.execLd_b_n n s
  | .ld_c_n n => Sys2Proof.Machine.execLd_c_n n s
  | .ld_d_n n => Sys2Proof.Machine.execLd_d_n n s
  | .ld_e_n n => Sys2Proof.Machine.execLd_e_n n s
  | .ld_h_n n => Sys2Proof.Machine.execLd_h_n n s
  | .ld_l_n n => Sys2Proof.Machine.execLd_l_n n s
  | .ld_atHL_n n => Sys2Proof.Machine.execLd_atHL_n n s
  | .ld_a_n n => Sys2Proof.Machine.execLd_a_n n s
  | .ld_bc_nn nn => Sys2Proof.Machine.execLd_bc_nn nn s
  | .ld_de_nn nn => Sys2Proof.Machine.execLd_de_nn nn s
  | .ld_hl_nn nn => Sys2Proof.Machine.execLd_hl_nn nn s
  | .ld_sp_nn nn => Sys2Proof.Machine.execLd_sp_nn nn s
  | .ld_a_atBC => Sys2Proof.Machine.execLd_a_atBC s
  | .ld_a_atDE => Sys2Proof.Machine.execLd_a_atDE s
  | .ld_atBC_a => Sys2Proof.Machine.execLd_atBC_a s
  | .ld_atDE_a => Sys2Proof.Machine.execLd_atDE_a s
  | .ld_a_atNN nn => Sys2Proof.Machine.execLd_a_atNN nn s
  | .ld_atNN_a nn => Sys2Proof.Machine.execLd_atNN_a nn s
  | .ld_hl_atNN nn => Sys2Proof.Machine.execLd_hl_atNN nn s
  | .ld_atNN_hl nn => Sys2Proof.Machine.execLd_atNN_hl nn s
  | .push_bc => Sys2Proof.Machine.execPush_bc s
  | .push_de => Sys2Proof.Machine.execPush_de s
  | .push_hl => Sys2Proof.Machine.execPush_hl s
  | .push_af => Sys2Proof.Machine.execPush_af s
  | .pop_bc => Sys2Proof.Machine.execPop_bc s
  | .pop_de => Sys2Proof.Machine.execPop_de s
  | .pop_hl => Sys2Proof.Machine.execPop_hl s
  | .pop_af => Sys2Proof.Machine.execPop_af s
  | .ex_de_hl => Sys2Proof.Machine.execEx_de_hl s
  | .add_a_b => Sys2Proof.Machine.execAdd_a_b s
  | .add_a_c => Sys2Proof.Machine.execAdd_a_c s
  | .add_a_d => Sys2Proof.Machine.execAdd_a_d s
  | .add_a_e => Sys2Proof.Machine.execAdd_a_e s
  | .add_a_h => Sys2Proof.Machine.execAdd_a_h s
  | .add_a_l => Sys2Proof.Machine.execAdd_a_l s
  | .add_a_atHL => Sys2Proof.Machine.execAdd_a_atHL s
  | .add_a_a => Sys2Proof.Machine.execAdd_a_a s
  | .adc_a_b => Sys2Proof.Machine.execAdc_a_b s
  | .adc_a_c => Sys2Proof.Machine.execAdc_a_c s
  | .adc_a_d => Sys2Proof.Machine.execAdc_a_d s
  | .adc_a_e => Sys2Proof.Machine.execAdc_a_e s
  | .adc_a_h => Sys2Proof.Machine.execAdc_a_h s
  | .adc_a_l => Sys2Proof.Machine.execAdc_a_l s
  | .adc_a_atHL => Sys2Proof.Machine.execAdc_a_atHL s
  | .adc_a_a => Sys2Proof.Machine.execAdc_a_a s
  | .sub_b => Sys2Proof.Machine.execSub_b s
  | .sub_c => Sys2Proof.Machine.execSub_c s
  | .sub_d => Sys2Proof.Machine.execSub_d s
  | .sub_e => Sys2Proof.Machine.execSub_e s
  | .sub_h => Sys2Proof.Machine.execSub_h s
  | .sub_l => Sys2Proof.Machine.execSub_l s
  | .sub_atHL => Sys2Proof.Machine.execSub_atHL s
  | .sub_a => Sys2Proof.Machine.execSub_a s
  | .sbc_a_b => Sys2Proof.Machine.execSbc_a_b s
  | .sbc_a_c => Sys2Proof.Machine.execSbc_a_c s
  | .sbc_a_d => Sys2Proof.Machine.execSbc_a_d s
  | .sbc_a_e => Sys2Proof.Machine.execSbc_a_e s
  | .sbc_a_h => Sys2Proof.Machine.execSbc_a_h s
  | .sbc_a_l => Sys2Proof.Machine.execSbc_a_l s
  | .sbc_a_atHL => Sys2Proof.Machine.execSbc_a_atHL s
  | .sbc_a_a => Sys2Proof.Machine.execSbc_a_a s
  | .and_b => Sys2Proof.Machine.execAnd_b s
  | .and_c => Sys2Proof.Machine.execAnd_c s
  | .and_d => Sys2Proof.Machine.execAnd_d s
  | .and_e => Sys2Proof.Machine.execAnd_e s
  | .and_h => Sys2Proof.Machine.execAnd_h s
  | .and_l => Sys2Proof.Machine.execAnd_l s
  | .and_atHL => Sys2Proof.Machine.execAnd_atHL s
  | .and_a => Sys2Proof.Machine.execAnd_a s
  | .xor_b => Sys2Proof.Machine.execXor_b s
  | .xor_c => Sys2Proof.Machine.execXor_c s
  | .xor_d => Sys2Proof.Machine.execXor_d s
  | .xor_e => Sys2Proof.Machine.execXor_e s
  | .xor_h => Sys2Proof.Machine.execXor_h s
  | .xor_l => Sys2Proof.Machine.execXor_l s
  | .xor_atHL => Sys2Proof.Machine.execXor_atHL s
  | .xor_a => Sys2Proof.Machine.execXor_a s
  | .or_b => Sys2Proof.Machine.execOr_b s
  | .or_c => Sys2Proof.Machine.execOr_c s
  | .or_d => Sys2Proof.Machine.execOr_d s
  | .or_e => Sys2Proof.Machine.execOr_e s
  | .or_h => Sys2Proof.Machine.execOr_h s
  | .or_l => Sys2Proof.Machine.execOr_l s
  | .or_atHL => Sys2Proof.Machine.execOr_atHL s
  | .or_a => Sys2Proof.Machine.execOr_a s
  | .cp_b => Sys2Proof.Machine.execCp_b s
  | .cp_c => Sys2Proof.Machine.execCp_c s
  | .cp_d => Sys2Proof.Machine.execCp_d s
  | .cp_e => Sys2Proof.Machine.execCp_e s
  | .cp_h => Sys2Proof.Machine.execCp_h s
  | .cp_l => Sys2Proof.Machine.execCp_l s
  | .cp_atHL => Sys2Proof.Machine.execCp_atHL s
  | .cp_a => Sys2Proof.Machine.execCp_a s
  | .add_a_n n => Sys2Proof.Machine.execAdd_a_n n s
  | .adc_a_n n => Sys2Proof.Machine.execAdc_a_n n s
  | .sub_n n => Sys2Proof.Machine.execSub_n n s
  | .sbc_a_n n => Sys2Proof.Machine.execSbc_a_n n s
  | .and_n n => Sys2Proof.Machine.execAnd_n n s
  | .xor_n n => Sys2Proof.Machine.execXor_n n s
  | .or_n n => Sys2Proof.Machine.execOr_n n s
  | .cp_n n => Sys2Proof.Machine.execCp_n n s
  | .add_hl_bc => Sys2Proof.Machine.execAdd_hl_bc s
  | .add_hl_de => Sys2Proof.Machine.execAdd_hl_de s
  | .add_hl_hl => Sys2Proof.Machine.execAdd_hl_hl s
  | .add_hl_sp => Sys2Proof.Machine.execAdd_hl_sp s
  | .inc_b => Sys2Proof.Machine.execInc_b s
  | .dec_b => Sys2Proof.Machine.execDec_b s
  | .inc_c => Sys2Proof.Machine.execInc_c s
  | .dec_c => Sys2Proof.Machine.execDec_c s
  | .inc_d => Sys2Proof.Machine.execInc_d s
  | .dec_d => Sys2Proof.Machine.execDec_d s
  | .inc_e => Sys2Proof.Machine.execInc_e s
  | .dec_e => Sys2Proof.Machine.execDec_e s
  | .inc_h => Sys2Proof.Machine.execInc_h s
  | .dec_h => Sys2Proof.Machine.execDec_h s
  | .inc_l => Sys2Proof.Machine.execInc_l s
  | .dec_l => Sys2Proof.Machine.execDec_l s
  | .inc_atHL => Sys2Proof.Machine.execInc_atHL s
  | .dec_atHL => Sys2Proof.Machine.execDec_atHL s
  | .inc_a => Sys2Proof.Machine.execInc_a s
  | .dec_a => Sys2Proof.Machine.execDec_a s
  | .inc_bc => Sys2Proof.Machine.execInc_bc s
  | .dec_bc => Sys2Proof.Machine.execDec_bc s
  | .inc_de => Sys2Proof.Machine.execInc_de s
  | .dec_de => Sys2Proof.Machine.execDec_de s
  | .inc_hl => Sys2Proof.Machine.execInc_hl s
  | .dec_hl => Sys2Proof.Machine.execDec_hl s
  | .inc_sp => Sys2Proof.Machine.execInc_sp s
  | .dec_sp => Sys2Proof.Machine.execDec_sp s
  | .rlca => Sys2Proof.Machine.execRlca s
  | .rrca => Sys2Proof.Machine.execRrca s
  | .rla => Sys2Proof.Machine.execRla s
  | .rra => Sys2Proof.Machine.execRra s
  | .jp_nn nn => Sys2Proof.Machine.execJp_nn nn s
  | .jp_nz_nn nn => Sys2Proof.Machine.execJp_nz_nn nn s
  | .jp_z_nn nn => Sys2Proof.Machine.execJp_z_nn nn s
  | .jp_nc_nn nn => Sys2Proof.Machine.execJp_nc_nn nn s
  | .jp_c_nn nn => Sys2Proof.Machine.execJp_c_nn nn s
  | .jr_e e => Sys2Proof.Machine.execJr_e e s
  | .jr_nz_e e => Sys2Proof.Machine.execJr_nz_e e s
  | .jr_z_e e => Sys2Proof.Machine.execJr_z_e e s
  | .jr_nc_e e => Sys2Proof.Machine.execJr_nc_e e s
  | .jr_c_e e => Sys2Proof.Machine.execJr_c_e e s
  | .djnz_e e => Sys2Proof.Machine.execDjnz_e e s
  | .call_nn nn => Sys2Proof.Machine.execCall_nn nn s
  | .call_nz_nn nn => Sys2Proof.Machine.execCall_nz_nn nn s
  | .call_z_nn nn => Sys2Proof.Machine.execCall_z_nn nn s
  | .call_nc_nn nn => Sys2Proof.Machine.execCall_nc_nn nn s
  | .call_c_nn nn => Sys2Proof.Machine.execCall_c_nn nn s
  | .ret => Sys2Proof.Machine.execRet s
  | .ret_nz => Sys2Proof.Machine.execRet_nz s
  | .ret_z => Sys2Proof.Machine.execRet_z s
  | .ret_nc => Sys2Proof.Machine.execRet_nc s
  | .ret_c => Sys2Proof.Machine.execRet_c s
  | .rst_00 => Sys2Proof.Machine.execRst_00 s
  | .rst_08 => Sys2Proof.Machine.execRst_08 s
  | .rst_10 => Sys2Proof.Machine.execRst_10 s
  | .rst_18 => Sys2Proof.Machine.execRst_18 s
  | .rst_20 => Sys2Proof.Machine.execRst_20 s
  | .rst_28 => Sys2Proof.Machine.execRst_28 s
  | .rst_30 => Sys2Proof.Machine.execRst_30 s
  | .rst_38 => Sys2Proof.Machine.execRst_38 s
  | .scf => Sys2Proof.Machine.execScf s
  | .ccf => Sys2Proof.Machine.execCcf s
  | .cpl => Sys2Proof.Machine.execCpl s
  | .halt => Sys2Proof.Machine.execHalt s
  | .srl_b => Sys2Proof.Machine.execSrl_b s
  | .srl_c => Sys2Proof.Machine.execSrl_c s
  | .srl_d => Sys2Proof.Machine.execSrl_d s
  | .srl_e => Sys2Proof.Machine.execSrl_e s
  | .srl_h => Sys2Proof.Machine.execSrl_h s
  | .srl_l => Sys2Proof.Machine.execSrl_l s
  | .srl_atHL => Sys2Proof.Machine.execSrl_atHL s
  | .srl_a => Sys2Proof.Machine.execSrl_a s
  | .bit_0_b => Sys2Proof.Machine.execBit_0_b s
  | .bit_1_b => Sys2Proof.Machine.execBit_1_b s
  | .bit_2_b => Sys2Proof.Machine.execBit_2_b s
  | .bit_3_b => Sys2Proof.Machine.execBit_3_b s
  | .bit_4_b => Sys2Proof.Machine.execBit_4_b s
  | .bit_5_b => Sys2Proof.Machine.execBit_5_b s
  | .bit_6_b => Sys2Proof.Machine.execBit_6_b s
  | .bit_7_b => Sys2Proof.Machine.execBit_7_b s
  | .bit_0_c => Sys2Proof.Machine.execBit_0_c s
  | .bit_1_c => Sys2Proof.Machine.execBit_1_c s
  | .bit_2_c => Sys2Proof.Machine.execBit_2_c s
  | .bit_3_c => Sys2Proof.Machine.execBit_3_c s
  | .bit_4_c => Sys2Proof.Machine.execBit_4_c s
  | .bit_5_c => Sys2Proof.Machine.execBit_5_c s
  | .bit_6_c => Sys2Proof.Machine.execBit_6_c s
  | .bit_7_c => Sys2Proof.Machine.execBit_7_c s
  | .bit_0_d => Sys2Proof.Machine.execBit_0_d s
  | .bit_1_d => Sys2Proof.Machine.execBit_1_d s
  | .bit_2_d => Sys2Proof.Machine.execBit_2_d s
  | .bit_3_d => Sys2Proof.Machine.execBit_3_d s
  | .bit_4_d => Sys2Proof.Machine.execBit_4_d s
  | .bit_5_d => Sys2Proof.Machine.execBit_5_d s
  | .bit_6_d => Sys2Proof.Machine.execBit_6_d s
  | .bit_7_d => Sys2Proof.Machine.execBit_7_d s
  | .bit_0_e => Sys2Proof.Machine.execBit_0_e s
  | .bit_1_e => Sys2Proof.Machine.execBit_1_e s
  | .bit_2_e => Sys2Proof.Machine.execBit_2_e s
  | .bit_3_e => Sys2Proof.Machine.execBit_3_e s
  | .bit_4_e => Sys2Proof.Machine.execBit_4_e s
  | .bit_5_e => Sys2Proof.Machine.execBit_5_e s
  | .bit_6_e => Sys2Proof.Machine.execBit_6_e s
  | .bit_7_e => Sys2Proof.Machine.execBit_7_e s
  | .bit_0_h => Sys2Proof.Machine.execBit_0_h s
  | .bit_1_h => Sys2Proof.Machine.execBit_1_h s
  | .bit_2_h => Sys2Proof.Machine.execBit_2_h s
  | .bit_3_h => Sys2Proof.Machine.execBit_3_h s
  | .bit_4_h => Sys2Proof.Machine.execBit_4_h s
  | .bit_5_h => Sys2Proof.Machine.execBit_5_h s
  | .bit_6_h => Sys2Proof.Machine.execBit_6_h s
  | .bit_7_h => Sys2Proof.Machine.execBit_7_h s
  | .bit_0_l => Sys2Proof.Machine.execBit_0_l s
  | .bit_1_l => Sys2Proof.Machine.execBit_1_l s
  | .bit_2_l => Sys2Proof.Machine.execBit_2_l s
  | .bit_3_l => Sys2Proof.Machine.execBit_3_l s
  | .bit_4_l => Sys2Proof.Machine.execBit_4_l s
  | .bit_5_l => Sys2Proof.Machine.execBit_5_l s
  | .bit_6_l => Sys2Proof.Machine.execBit_6_l s
  | .bit_7_l => Sys2Proof.Machine.execBit_7_l s
  | .bit_0_atHL => Sys2Proof.Machine.execBit_0_atHL s
  | .bit_1_atHL => Sys2Proof.Machine.execBit_1_atHL s
  | .bit_2_atHL => Sys2Proof.Machine.execBit_2_atHL s
  | .bit_3_atHL => Sys2Proof.Machine.execBit_3_atHL s
  | .bit_4_atHL => Sys2Proof.Machine.execBit_4_atHL s
  | .bit_5_atHL => Sys2Proof.Machine.execBit_5_atHL s
  | .bit_6_atHL => Sys2Proof.Machine.execBit_6_atHL s
  | .bit_7_atHL => Sys2Proof.Machine.execBit_7_atHL s
  | .bit_0_a => Sys2Proof.Machine.execBit_0_a s
  | .bit_1_a => Sys2Proof.Machine.execBit_1_a s
  | .bit_2_a => Sys2Proof.Machine.execBit_2_a s
  | .bit_3_a => Sys2Proof.Machine.execBit_3_a s
  | .bit_4_a => Sys2Proof.Machine.execBit_4_a s
  | .bit_5_a => Sys2Proof.Machine.execBit_5_a s
  | .bit_6_a => Sys2Proof.Machine.execBit_6_a s
  | .bit_7_a => Sys2Proof.Machine.execBit_7_a s
  | .res_0_b => Sys2Proof.Machine.execRes_0_b s
  | .res_1_b => Sys2Proof.Machine.execRes_1_b s
  | .res_2_b => Sys2Proof.Machine.execRes_2_b s
  | .res_3_b => Sys2Proof.Machine.execRes_3_b s
  | .res_4_b => Sys2Proof.Machine.execRes_4_b s
  | .res_5_b => Sys2Proof.Machine.execRes_5_b s
  | .res_6_b => Sys2Proof.Machine.execRes_6_b s
  | .res_7_b => Sys2Proof.Machine.execRes_7_b s
  | .res_0_c => Sys2Proof.Machine.execRes_0_c s
  | .res_1_c => Sys2Proof.Machine.execRes_1_c s
  | .res_2_c => Sys2Proof.Machine.execRes_2_c s
  | .res_3_c => Sys2Proof.Machine.execRes_3_c s
  | .res_4_c => Sys2Proof.Machine.execRes_4_c s
  | .res_5_c => Sys2Proof.Machine.execRes_5_c s
  | .res_6_c => Sys2Proof.Machine.execRes_6_c s
  | .res_7_c => Sys2Proof.Machine.execRes_7_c s
  | .res_0_d => Sys2Proof.Machine.execRes_0_d s
  | .res_1_d => Sys2Proof.Machine.execRes_1_d s
  | .res_2_d => Sys2Proof.Machine.execRes_2_d s
  | .res_3_d => Sys2Proof.Machine.execRes_3_d s
  | .res_4_d => Sys2Proof.Machine.execRes_4_d s
  | .res_5_d => Sys2Proof.Machine.execRes_5_d s
  | .res_6_d => Sys2Proof.Machine.execRes_6_d s
  | .res_7_d => Sys2Proof.Machine.execRes_7_d s
  | .res_0_e => Sys2Proof.Machine.execRes_0_e s
  | .res_1_e => Sys2Proof.Machine.execRes_1_e s
  | .res_2_e => Sys2Proof.Machine.execRes_2_e s
  | .res_3_e => Sys2Proof.Machine.execRes_3_e s
  | .res_4_e => Sys2Proof.Machine.execRes_4_e s
  | .res_5_e => Sys2Proof.Machine.execRes_5_e s
  | .res_6_e => Sys2Proof.Machine.execRes_6_e s
  | .res_7_e => Sys2Proof.Machine.execRes_7_e s
  | .res_0_h => Sys2Proof.Machine.execRes_0_h s
  | .res_1_h => Sys2Proof.Machine.execRes_1_h s
  | .res_2_h => Sys2Proof.Machine.execRes_2_h s
  | .res_3_h => Sys2Proof.Machine.execRes_3_h s
  | .res_4_h => Sys2Proof.Machine.execRes_4_h s
  | .res_5_h => Sys2Proof.Machine.execRes_5_h s
  | .res_6_h => Sys2Proof.Machine.execRes_6_h s
  | .res_7_h => Sys2Proof.Machine.execRes_7_h s
  | .res_0_l => Sys2Proof.Machine.execRes_0_l s
  | .res_1_l => Sys2Proof.Machine.execRes_1_l s
  | .res_2_l => Sys2Proof.Machine.execRes_2_l s
  | .res_3_l => Sys2Proof.Machine.execRes_3_l s
  | .res_4_l => Sys2Proof.Machine.execRes_4_l s
  | .res_5_l => Sys2Proof.Machine.execRes_5_l s
  | .res_6_l => Sys2Proof.Machine.execRes_6_l s
  | .res_7_l => Sys2Proof.Machine.execRes_7_l s
  | .res_0_atHL => Sys2Proof.Machine.execRes_0_atHL s
  | .res_1_atHL => Sys2Proof.Machine.execRes_1_atHL s
  | .res_2_atHL => Sys2Proof.Machine.execRes_2_atHL s
  | .res_3_atHL => Sys2Proof.Machine.execRes_3_atHL s
  | .res_4_atHL => Sys2Proof.Machine.execRes_4_atHL s
  | .res_5_atHL => Sys2Proof.Machine.execRes_5_atHL s
  | .res_6_atHL => Sys2Proof.Machine.execRes_6_atHL s
  | .res_7_atHL => Sys2Proof.Machine.execRes_7_atHL s
  | .res_0_a => Sys2Proof.Machine.execRes_0_a s
  | .res_1_a => Sys2Proof.Machine.execRes_1_a s
  | .res_2_a => Sys2Proof.Machine.execRes_2_a s
  | .res_3_a => Sys2Proof.Machine.execRes_3_a s
  | .res_4_a => Sys2Proof.Machine.execRes_4_a s
  | .res_5_a => Sys2Proof.Machine.execRes_5_a s
  | .res_6_a => Sys2Proof.Machine.execRes_6_a s
  | .res_7_a => Sys2Proof.Machine.execRes_7_a s
  | .set_0_b => Sys2Proof.Machine.execSet_0_b s
  | .set_1_b => Sys2Proof.Machine.execSet_1_b s
  | .set_2_b => Sys2Proof.Machine.execSet_2_b s
  | .set_3_b => Sys2Proof.Machine.execSet_3_b s
  | .set_4_b => Sys2Proof.Machine.execSet_4_b s
  | .set_5_b => Sys2Proof.Machine.execSet_5_b s
  | .set_6_b => Sys2Proof.Machine.execSet_6_b s
  | .set_7_b => Sys2Proof.Machine.execSet_7_b s
  | .set_0_c => Sys2Proof.Machine.execSet_0_c s
  | .set_1_c => Sys2Proof.Machine.execSet_1_c s
  | .set_2_c => Sys2Proof.Machine.execSet_2_c s
  | .set_3_c => Sys2Proof.Machine.execSet_3_c s
  | .set_4_c => Sys2Proof.Machine.execSet_4_c s
  | .set_5_c => Sys2Proof.Machine.execSet_5_c s
  | .set_6_c => Sys2Proof.Machine.execSet_6_c s
  | .set_7_c => Sys2Proof.Machine.execSet_7_c s
  | .set_0_d => Sys2Proof.Machine.execSet_0_d s
  | .set_1_d => Sys2Proof.Machine.execSet_1_d s
  | .set_2_d => Sys2Proof.Machine.execSet_2_d s
  | .set_3_d => Sys2Proof.Machine.execSet_3_d s
  | .set_4_d => Sys2Proof.Machine.execSet_4_d s
  | .set_5_d => Sys2Proof.Machine.execSet_5_d s
  | .set_6_d => Sys2Proof.Machine.execSet_6_d s
  | .set_7_d => Sys2Proof.Machine.execSet_7_d s
  | .set_0_e => Sys2Proof.Machine.execSet_0_e s
  | .set_1_e => Sys2Proof.Machine.execSet_1_e s
  | .set_2_e => Sys2Proof.Machine.execSet_2_e s
  | .set_3_e => Sys2Proof.Machine.execSet_3_e s
  | .set_4_e => Sys2Proof.Machine.execSet_4_e s
  | .set_5_e => Sys2Proof.Machine.execSet_5_e s
  | .set_6_e => Sys2Proof.Machine.execSet_6_e s
  | .set_7_e => Sys2Proof.Machine.execSet_7_e s
  | .set_0_h => Sys2Proof.Machine.execSet_0_h s
  | .set_1_h => Sys2Proof.Machine.execSet_1_h s
  | .set_2_h => Sys2Proof.Machine.execSet_2_h s
  | .set_3_h => Sys2Proof.Machine.execSet_3_h s
  | .set_4_h => Sys2Proof.Machine.execSet_4_h s
  | .set_5_h => Sys2Proof.Machine.execSet_5_h s
  | .set_6_h => Sys2Proof.Machine.execSet_6_h s
  | .set_7_h => Sys2Proof.Machine.execSet_7_h s
  | .set_0_l => Sys2Proof.Machine.execSet_0_l s
  | .set_1_l => Sys2Proof.Machine.execSet_1_l s
  | .set_2_l => Sys2Proof.Machine.execSet_2_l s
  | .set_3_l => Sys2Proof.Machine.execSet_3_l s
  | .set_4_l => Sys2Proof.Machine.execSet_4_l s
  | .set_5_l => Sys2Proof.Machine.execSet_5_l s
  | .set_6_l => Sys2Proof.Machine.execSet_6_l s
  | .set_7_l => Sys2Proof.Machine.execSet_7_l s
  | .set_0_atHL => Sys2Proof.Machine.execSet_0_atHL s
  | .set_1_atHL => Sys2Proof.Machine.execSet_1_atHL s
  | .set_2_atHL => Sys2Proof.Machine.execSet_2_atHL s
  | .set_3_atHL => Sys2Proof.Machine.execSet_3_atHL s
  | .set_4_atHL => Sys2Proof.Machine.execSet_4_atHL s
  | .set_5_atHL => Sys2Proof.Machine.execSet_5_atHL s
  | .set_6_atHL => Sys2Proof.Machine.execSet_6_atHL s
  | .set_7_atHL => Sys2Proof.Machine.execSet_7_atHL s
  | .set_0_a => Sys2Proof.Machine.execSet_0_a s
  | .set_1_a => Sys2Proof.Machine.execSet_1_a s
  | .set_2_a => Sys2Proof.Machine.execSet_2_a s
  | .set_3_a => Sys2Proof.Machine.execSet_3_a s
  | .set_4_a => Sys2Proof.Machine.execSet_4_a s
  | .set_5_a => Sys2Proof.Machine.execSet_5_a s
  | .set_6_a => Sys2Proof.Machine.execSet_6_a s
  | .set_7_a => Sys2Proof.Machine.execSet_7_a s
  | .neg => Sys2Proof.Machine.execNeg s
  | .ld_bc_atNN nn => Sys2Proof.Machine.execLd_bc_atNN nn s
  | .ld_de_atNN nn => Sys2Proof.Machine.execLd_de_atNN nn s
  | .ld_atNN_bc nn => Sys2Proof.Machine.execLd_atNN_bc nn s
  | .ld_atNN_de nn => Sys2Proof.Machine.execLd_atNN_de nn s
  | .ld_sp_atNN nn => Sys2Proof.Machine.execLd_sp_atNN nn s
  | .ld_atNN_sp nn => Sys2Proof.Machine.execLd_atNN_sp nn s
  | .ld_ix_nn nn => Sys2Proof.Machine.execLd_ix_nn nn s
  | .push_ix => Sys2Proof.Machine.execPush_ix s
  | .pop_ix => Sys2Proof.Machine.execPop_ix s
  | .ld_b_atIX d => Sys2Proof.Machine.execLd_b_atIX d s
  | .ld_c_atIX d => Sys2Proof.Machine.execLd_c_atIX d s
  | .ld_d_atIX d => Sys2Proof.Machine.execLd_d_atIX d s
  | .ld_e_atIX d => Sys2Proof.Machine.execLd_e_atIX d s
  | .ld_h_atIX d => Sys2Proof.Machine.execLd_h_atIX d s
  | .ld_l_atIX d => Sys2Proof.Machine.execLd_l_atIX d s
  | .ld_a_atIX d => Sys2Proof.Machine.execLd_a_atIX d s
  | .add_ix_bc => Sys2Proof.Machine.execAdd_ix_bc s
  | .add_ix_de => Sys2Proof.Machine.execAdd_ix_de s
  | .add_ix_ix => Sys2Proof.Machine.execAdd_ix_ix s
  | .add_ix_sp => Sys2Proof.Machine.execAdd_ix_sp s
  | .ld_iy_nn nn => Sys2Proof.Machine.execLd_iy_nn nn s
  | .push_iy => Sys2Proof.Machine.execPush_iy s
  | .pop_iy => Sys2Proof.Machine.execPop_iy s
  | .ld_b_atIY d => Sys2Proof.Machine.execLd_b_atIY d s
  | .ld_c_atIY d => Sys2Proof.Machine.execLd_c_atIY d s
  | .ld_d_atIY d => Sys2Proof.Machine.execLd_d_atIY d s
  | .ld_e_atIY d => Sys2Proof.Machine.execLd_e_atIY d s
  | .ld_h_atIY d => Sys2Proof.Machine.execLd_h_atIY d s
  | .ld_l_atIY d => Sys2Proof.Machine.execLd_l_atIY d s
  | .ld_a_atIY d => Sys2Proof.Machine.execLd_a_atIY d s
  | .add_iy_bc => Sys2Proof.Machine.execAdd_iy_bc s
  | .add_iy_de => Sys2Proof.Machine.execAdd_iy_de s
  | .add_iy_iy => Sys2Proof.Machine.execAdd_iy_iy s
  | .add_iy_sp => Sys2Proof.Machine.execAdd_iy_sp s

end Sys2Proof.Machine
end

