-- ==== Sys2Proof/WellFormed.lean ====
section
/-! DEFINITION. Which instructions a configuration admits (00_scope.md R3, 30_encoding.md R151). The operands of
every constructor are typed to their encodings' widths, so admission is all there is to check. -/

namespace Sys2Proof

/-- The row is selected by `rotAccOps` (R151, D9). -/
def Config.admitsRot (cfg : Config) (op : RotOp) : Bool := decide (op ∈ cfg.rotAccOps)

/-- The prefix of an index register is admitted (R151, D15). -/
def Config.admitsIdx (cfg : Config) (xy : IdxReg) : Bool := decide (xy ∈ cfg.idxPrefixes)

/-- `LD r,(XY+d)` is admitted (R151, D15, D16). -/
def Config.admitsIdxLoad (cfg : Config) (xy : IdxReg) (r : Reg8) : Bool :=
  cfg.admitsIdx xy && decide (r ∈ cfg.idxLoadRegs)

/-- `ADD XY,pp` is admitted (R151, D15, D17). -/
def Config.admitsIdxAdd (cfg : Config) (xy : IdxReg) (pp : IdxPair) : Bool :=
  cfg.admitsIdx xy && decide (pp = cfg.idxAddPair)

/-- The instruction is one the configuration admits (R151: "Every other row is always admitted"). -/
def Instr.wf (cfg : Config) : Instr → Bool
  | .nop | .ld_b_b | .ld_b_c | .ld_b_d | .ld_b_e | .ld_b_h | .ld_b_l | .ld_b_atHL | .ld_b_a | .ld_c_b
  | .ld_c_c | .ld_c_d | .ld_c_e | .ld_c_h | .ld_c_l | .ld_c_atHL | .ld_c_a | .ld_d_b | .ld_d_c | .ld_d_d
  | .ld_d_e | .ld_d_h | .ld_d_l | .ld_d_atHL | .ld_d_a | .ld_e_b | .ld_e_c | .ld_e_d | .ld_e_e | .ld_e_h
  | .ld_e_l | .ld_e_atHL | .ld_e_a | .ld_h_b | .ld_h_c | .ld_h_d | .ld_h_e | .ld_h_h | .ld_h_l | .ld_h_atHL
  | .ld_h_a | .ld_l_b | .ld_l_c | .ld_l_d | .ld_l_e | .ld_l_h | .ld_l_l | .ld_l_atHL | .ld_l_a | .ld_atHL_b
  | .ld_atHL_c | .ld_atHL_d | .ld_atHL_e | .ld_atHL_h | .ld_atHL_l | .ld_atHL_a | .ld_a_b | .ld_a_c
  | .ld_a_d | .ld_a_e | .ld_a_h | .ld_a_l | .ld_a_atHL | .ld_a_a | .ld_b_n _ | .ld_c_n _ | .ld_d_n _
  | .ld_e_n _ | .ld_h_n _ | .ld_l_n _ | .ld_atHL_n _ | .ld_a_n _ | .ld_bc_nn _ | .ld_de_nn _ | .ld_hl_nn _
  | .ld_sp_nn _ | .ld_a_atBC | .ld_a_atDE | .ld_atBC_a | .ld_atDE_a | .ld_a_atNN _ | .ld_atNN_a _
  | .ld_hl_atNN _ | .ld_atNN_hl _ | .push_bc | .push_de | .push_hl | .push_af | .pop_bc | .pop_de | .pop_hl
  | .pop_af | .ex_de_hl | .add_a_b | .add_a_c | .add_a_d | .add_a_e | .add_a_h | .add_a_l | .add_a_atHL
  | .add_a_a | .adc_a_b | .adc_a_c | .adc_a_d | .adc_a_e | .adc_a_h | .adc_a_l | .adc_a_atHL | .adc_a_a
  | .sub_b | .sub_c | .sub_d | .sub_e | .sub_h | .sub_l | .sub_atHL | .sub_a | .sbc_a_b | .sbc_a_c
  | .sbc_a_d | .sbc_a_e | .sbc_a_h | .sbc_a_l | .sbc_a_atHL | .sbc_a_a | .and_b | .and_c | .and_d | .and_e
  | .and_h | .and_l | .and_atHL | .and_a | .xor_b | .xor_c | .xor_d | .xor_e | .xor_h | .xor_l | .xor_atHL
  | .xor_a | .or_b | .or_c | .or_d | .or_e | .or_h | .or_l | .or_atHL | .or_a | .cp_b | .cp_c | .cp_d
  | .cp_e | .cp_h | .cp_l | .cp_atHL | .cp_a | .add_a_n _ | .adc_a_n _ | .sub_n _ | .sbc_a_n _ | .and_n _
  | .xor_n _ | .or_n _ | .cp_n _ | .add_hl_bc | .add_hl_de | .add_hl_hl | .add_hl_sp | .inc_b | .dec_b
  | .inc_c | .dec_c | .inc_d | .dec_d | .inc_e | .dec_e | .inc_h | .dec_h | .inc_l | .dec_l | .inc_atHL
  | .dec_atHL | .inc_a | .dec_a | .inc_bc | .dec_bc | .inc_de | .dec_de | .inc_hl | .dec_hl | .inc_sp
  | .dec_sp => true
  | .rlca => cfg.admitsRot .rlca
  | .rrca => cfg.admitsRot .rrca
  | .rla => cfg.admitsRot .rla
  | .rra => cfg.admitsRot .rra
  | .jp_nn _ | .jp_nz_nn _ | .jp_z_nn _ | .jp_nc_nn _ | .jp_c_nn _ | .jr_e _ | .jr_nz_e _ | .jr_z_e _
  | .jr_nc_e _ | .jr_c_e _ | .djnz_e _ | .call_nn _ | .call_nz_nn _ | .call_z_nn _ | .call_nc_nn _
  | .call_c_nn _ | .ret | .ret_nz | .ret_z | .ret_nc | .ret_c | .rst_00 | .rst_08 | .rst_10 | .rst_18
  | .rst_20 | .rst_28 | .rst_30 | .rst_38 | .scf | .ccf | .cpl | .halt | .srl_b | .srl_c | .srl_d | .srl_e
  | .srl_h | .srl_l | .srl_atHL | .srl_a | .bit_0_b | .bit_1_b | .bit_2_b | .bit_3_b | .bit_4_b | .bit_5_b
  | .bit_6_b | .bit_7_b | .bit_0_c | .bit_1_c | .bit_2_c | .bit_3_c | .bit_4_c | .bit_5_c | .bit_6_c
  | .bit_7_c | .bit_0_d | .bit_1_d | .bit_2_d | .bit_3_d | .bit_4_d | .bit_5_d | .bit_6_d | .bit_7_d
  | .bit_0_e | .bit_1_e | .bit_2_e | .bit_3_e | .bit_4_e | .bit_5_e | .bit_6_e | .bit_7_e | .bit_0_h
  | .bit_1_h | .bit_2_h | .bit_3_h | .bit_4_h | .bit_5_h | .bit_6_h | .bit_7_h | .bit_0_l | .bit_1_l
  | .bit_2_l | .bit_3_l | .bit_4_l | .bit_5_l | .bit_6_l | .bit_7_l | .bit_0_atHL | .bit_1_atHL
  | .bit_2_atHL | .bit_3_atHL | .bit_4_atHL | .bit_5_atHL | .bit_6_atHL | .bit_7_atHL | .bit_0_a | .bit_1_a
  | .bit_2_a | .bit_3_a | .bit_4_a | .bit_5_a | .bit_6_a | .bit_7_a | .res_0_b | .res_1_b | .res_2_b
  | .res_3_b | .res_4_b | .res_5_b | .res_6_b | .res_7_b | .res_0_c | .res_1_c | .res_2_c | .res_3_c
  | .res_4_c | .res_5_c | .res_6_c | .res_7_c | .res_0_d | .res_1_d | .res_2_d | .res_3_d | .res_4_d
  | .res_5_d | .res_6_d | .res_7_d | .res_0_e | .res_1_e | .res_2_e | .res_3_e | .res_4_e | .res_5_e
  | .res_6_e | .res_7_e | .res_0_h | .res_1_h | .res_2_h | .res_3_h | .res_4_h | .res_5_h | .res_6_h
  | .res_7_h | .res_0_l | .res_1_l | .res_2_l | .res_3_l | .res_4_l | .res_5_l | .res_6_l | .res_7_l
  | .res_0_atHL | .res_1_atHL | .res_2_atHL | .res_3_atHL | .res_4_atHL | .res_5_atHL | .res_6_atHL
  | .res_7_atHL | .res_0_a | .res_1_a | .res_2_a | .res_3_a | .res_4_a | .res_5_a | .res_6_a | .res_7_a
  | .set_0_b | .set_1_b | .set_2_b | .set_3_b | .set_4_b | .set_5_b | .set_6_b | .set_7_b | .set_0_c
  | .set_1_c | .set_2_c | .set_3_c | .set_4_c | .set_5_c | .set_6_c | .set_7_c | .set_0_d | .set_1_d
  | .set_2_d | .set_3_d | .set_4_d | .set_5_d | .set_6_d | .set_7_d | .set_0_e | .set_1_e | .set_2_e
  | .set_3_e | .set_4_e | .set_5_e | .set_6_e | .set_7_e | .set_0_h | .set_1_h | .set_2_h | .set_3_h
  | .set_4_h | .set_5_h | .set_6_h | .set_7_h | .set_0_l | .set_1_l | .set_2_l | .set_3_l | .set_4_l
  | .set_5_l | .set_6_l | .set_7_l | .set_0_atHL | .set_1_atHL | .set_2_atHL | .set_3_atHL | .set_4_atHL
  | .set_5_atHL | .set_6_atHL | .set_7_atHL | .set_0_a | .set_1_a | .set_2_a | .set_3_a | .set_4_a
  | .set_5_a | .set_6_a | .set_7_a | .neg | .ld_bc_atNN _ | .ld_de_atNN _ | .ld_atNN_bc _ | .ld_atNN_de _
  | .ld_sp_atNN _ | .ld_atNN_sp _ => true
  | .ld_ix_nn _ => cfg.admitsIdx .ix
  | .push_ix => cfg.admitsIdx .ix
  | .pop_ix => cfg.admitsIdx .ix
  | .ld_b_atIX _ => cfg.admitsIdxLoad .ix .b
  | .ld_c_atIX _ => cfg.admitsIdxLoad .ix .c
  | .ld_d_atIX _ => cfg.admitsIdxLoad .ix .d
  | .ld_e_atIX _ => cfg.admitsIdxLoad .ix .e
  | .ld_h_atIX _ => cfg.admitsIdxLoad .ix .h
  | .ld_l_atIX _ => cfg.admitsIdxLoad .ix .l
  | .ld_a_atIX _ => cfg.admitsIdxLoad .ix .a
  | .add_ix_bc => cfg.admitsIdxAdd .ix .bc
  | .add_ix_de => cfg.admitsIdxAdd .ix .de
  | .add_ix_ix => cfg.admitsIdxAdd .ix .self
  | .add_ix_sp => cfg.admitsIdxAdd .ix .sp
  | .ld_iy_nn _ => cfg.admitsIdx .iy
  | .push_iy => cfg.admitsIdx .iy
  | .pop_iy => cfg.admitsIdx .iy
  | .ld_b_atIY _ => cfg.admitsIdxLoad .iy .b
  | .ld_c_atIY _ => cfg.admitsIdxLoad .iy .c
  | .ld_d_atIY _ => cfg.admitsIdxLoad .iy .d
  | .ld_e_atIY _ => cfg.admitsIdxLoad .iy .e
  | .ld_h_atIY _ => cfg.admitsIdxLoad .iy .h
  | .ld_l_atIY _ => cfg.admitsIdxLoad .iy .l
  | .ld_a_atIY _ => cfg.admitsIdxLoad .iy .a
  | .add_iy_bc => cfg.admitsIdxAdd .iy .bc
  | .add_iy_de => cfg.admitsIdxAdd .iy .de
  | .add_iy_iy => cfg.admitsIdxAdd .iy .self
  | .add_iy_sp => cfg.admitsIdxAdd .iy .sp

end Sys2Proof
end

