-- ==== Sys2Proof/Decode.lean ====
section
/-! DEFINITION. Decode (30_encoding.md R120 to R154), total on any bytes, and the encoder, written row by row from
the encodings of opcode_table.json. -/

namespace Sys2Proof

/-! ### Decoding -/

/-- What decode answers: an instruction with its length, or the bytes fetched so far of one that is not admitted
(R150). -/
inductive Decoded
  | instr (i : Instr) (len : Nat)
  | undecodable (bytes : List Byte)
  deriving DecidableEq, Repr

/-- A cell of an opcode map: an instruction without, with a byte, or with a word of operand (formats F1 to F7,
R120), or `·`, a decode error. -/
inductive Entry
  | one (i : Instr)
  | byte (f : Byte → Instr)
  | word (f : Word → Instr)
  | undef

/-- A cell admitted only under a configuration condition (R151). -/
def admitted (c : Bool) (e : Entry) : Entry := if c then e else .undef

/-- Finish a cell whose opcode bytes are `op`, with the two bytes after them (R122, R136: low byte first). -/
def Entry.finish (en : Entry) (op : List Byte) (p q : Byte) : Decoded :=
  match en with
  | .one i => .instr i op.length
  | .byte f => .instr (f p) (op.length + 1)
  | .word f => .instr (f (wordOf q p)) (op.length + 2)
  | .undef => .undecodable op

/-- The x = 0 quarter of the unprefixed map, a row for each y (R140). -/
def page0 (cfg : Config) (y z : BitVec 3) : Entry :=
  sel8 y
    (sel8 z (.one .nop) (.word .ld_bc_nn) (.one .ld_atBC_a) (.one .inc_bc) (.one .inc_b) (.one .dec_b)
      (.byte .ld_b_n) (admitted (cfg.admitsRot .rlca) (.one .rlca)))
    (sel8 z .undef (.one .add_hl_bc) (.one .ld_a_atBC) (.one .dec_bc) (.one .inc_c) (.one .dec_c)
      (.byte .ld_c_n) (admitted (cfg.admitsRot .rrca) (.one .rrca)))
    (sel8 z (.byte .djnz_e) (.word .ld_de_nn) (.one .ld_atDE_a) (.one .inc_de) (.one .inc_d) (.one .dec_d)
      (.byte .ld_d_n) (admitted (cfg.admitsRot .rla) (.one .rla)))
    (sel8 z (.byte .jr_e) (.one .add_hl_de) (.one .ld_a_atDE) (.one .dec_de) (.one .inc_e) (.one .dec_e)
      (.byte .ld_e_n) (admitted (cfg.admitsRot .rra) (.one .rra)))
    (sel8 z (.byte .jr_nz_e) (.word .ld_hl_nn) (.word .ld_atNN_hl) (.one .inc_hl) (.one .inc_h) (.one .dec_h)
      (.byte .ld_h_n) .undef)
    (sel8 z (.byte .jr_z_e) (.one .add_hl_hl) (.word .ld_hl_atNN) (.one .dec_hl) (.one .inc_l) (.one .dec_l)
      (.byte .ld_l_n) (.one .cpl))
    (sel8 z (.byte .jr_nc_e) (.word .ld_sp_nn) (.word .ld_atNN_a) (.one .inc_sp) (.one .inc_atHL)
      (.one .dec_atHL) (.byte .ld_atHL_n) (.one .scf))
    (sel8 z (.byte .jr_c_e) (.one .add_hl_sp) (.word .ld_a_atNN) (.one .dec_sp) (.one .inc_a) (.one .dec_a)
      (.byte .ld_a_n) (.one .ccf))

/-- The x = 1 quarter: loads, with HALT in the place of LD (HL),(HL) (R140, R440). -/
def page1 (y z : BitVec 3) : Instr :=
  sel8 y
    (sel8 z .ld_b_b .ld_b_c .ld_b_d .ld_b_e .ld_b_h .ld_b_l .ld_b_atHL .ld_b_a)
    (sel8 z .ld_c_b .ld_c_c .ld_c_d .ld_c_e .ld_c_h .ld_c_l .ld_c_atHL .ld_c_a)
    (sel8 z .ld_d_b .ld_d_c .ld_d_d .ld_d_e .ld_d_h .ld_d_l .ld_d_atHL .ld_d_a)
    (sel8 z .ld_e_b .ld_e_c .ld_e_d .ld_e_e .ld_e_h .ld_e_l .ld_e_atHL .ld_e_a)
    (sel8 z .ld_h_b .ld_h_c .ld_h_d .ld_h_e .ld_h_h .ld_h_l .ld_h_atHL .ld_h_a)
    (sel8 z .ld_l_b .ld_l_c .ld_l_d .ld_l_e .ld_l_h .ld_l_l .ld_l_atHL .ld_l_a)
    (sel8 z .ld_atHL_b .ld_atHL_c .ld_atHL_d .ld_atHL_e .ld_atHL_h .ld_atHL_l .halt .ld_atHL_a)
    (sel8 z .ld_a_b .ld_a_c .ld_a_d .ld_a_e .ld_a_h .ld_a_l .ld_a_atHL .ld_a_a)

/-- The x = 2 quarter: the 8-bit ALU, a row for each ALU field (R134, R140). -/
def page2 (y z : BitVec 3) : Instr :=
  sel8 y
    (sel8 z .add_a_b .add_a_c .add_a_d .add_a_e .add_a_h .add_a_l .add_a_atHL .add_a_a)
    (sel8 z .adc_a_b .adc_a_c .adc_a_d .adc_a_e .adc_a_h .adc_a_l .adc_a_atHL .adc_a_a)
    (sel8 z .sub_b .sub_c .sub_d .sub_e .sub_h .sub_l .sub_atHL .sub_a)
    (sel8 z .sbc_a_b .sbc_a_c .sbc_a_d .sbc_a_e .sbc_a_h .sbc_a_l .sbc_a_atHL .sbc_a_a)
    (sel8 z .and_b .and_c .and_d .and_e .and_h .and_l .and_atHL .and_a)
    (sel8 z .xor_b .xor_c .xor_d .xor_e .xor_h .xor_l .xor_atHL .xor_a)
    (sel8 z .or_b .or_c .or_d .or_e .or_h .or_l .or_atHL .or_a)
    (sel8 z .cp_b .cp_c .cp_d .cp_e .cp_h .cp_l .cp_atHL .cp_a)

/-- The x = 3 quarter; the prefix bytes are no cells of it (R140). -/
def page3 (y z : BitVec 3) : Entry :=
  sel8 y
    (sel8 z (.one .ret_nz) (.one .pop_bc) (.word .jp_nz_nn) (.word .jp_nn) (.word .call_nz_nn) (.one .push_bc)
      (.byte .add_a_n) (.one .rst_00))
    (sel8 z (.one .ret_z) (.one .ret) (.word .jp_z_nn) .undef (.word .call_z_nn) (.word .call_nn)
      (.byte .adc_a_n) (.one .rst_08))
    (sel8 z (.one .ret_nc) (.one .pop_de) (.word .jp_nc_nn) .undef (.word .call_nc_nn) (.one .push_de)
      (.byte .sub_n) (.one .rst_10))
    (sel8 z (.one .ret_c) .undef (.word .jp_c_nn) .undef (.word .call_c_nn) .undef (.byte .sbc_a_n)
      (.one .rst_18))
    (sel8 z .undef (.one .pop_hl) .undef .undef .undef (.one .push_hl) (.byte .and_n) (.one .rst_20))
    (sel8 z .undef .undef .undef (.one .ex_de_hl) .undef .undef (.byte .xor_n) (.one .rst_28))
    (sel8 z .undef (.one .pop_af) .undef .undef .undef (.one .push_af) (.byte .or_n) (.one .rst_30))
    (sel8 z .undef .undef .undef .undef .undef .undef (.byte .cp_n) (.one .rst_38))

/-- The unprefixed map (R123, R140). -/
def mainPage (cfg : Config) (op : Byte) : Entry :=
  sel4 (fieldX op) (page0 cfg (fieldY op) (fieldZ op)) (.one (page1 (fieldY op) (fieldZ op)))
    (.one (page2 (fieldY op) (fieldZ op))) (page3 (fieldY op) (fieldZ op))

/-- SRL, the y = 7 row of x = 0 on the 0xCB page (R141). -/
def srlRow (z : BitVec 3) : Instr :=
  sel8 z .srl_b .srl_c .srl_d .srl_e .srl_h .srl_l .srl_atHL .srl_a

/-- BIT b,r: x = 1 of the 0xCB page, a row for each bit number (R141). -/
def bitPage (y z : BitVec 3) : Instr :=
  sel8 y
    (sel8 z .bit_0_b .bit_0_c .bit_0_d .bit_0_e .bit_0_h .bit_0_l .bit_0_atHL .bit_0_a)
    (sel8 z .bit_1_b .bit_1_c .bit_1_d .bit_1_e .bit_1_h .bit_1_l .bit_1_atHL .bit_1_a)
    (sel8 z .bit_2_b .bit_2_c .bit_2_d .bit_2_e .bit_2_h .bit_2_l .bit_2_atHL .bit_2_a)
    (sel8 z .bit_3_b .bit_3_c .bit_3_d .bit_3_e .bit_3_h .bit_3_l .bit_3_atHL .bit_3_a)
    (sel8 z .bit_4_b .bit_4_c .bit_4_d .bit_4_e .bit_4_h .bit_4_l .bit_4_atHL .bit_4_a)
    (sel8 z .bit_5_b .bit_5_c .bit_5_d .bit_5_e .bit_5_h .bit_5_l .bit_5_atHL .bit_5_a)
    (sel8 z .bit_6_b .bit_6_c .bit_6_d .bit_6_e .bit_6_h .bit_6_l .bit_6_atHL .bit_6_a)
    (sel8 z .bit_7_b .bit_7_c .bit_7_d .bit_7_e .bit_7_h .bit_7_l .bit_7_atHL .bit_7_a)

/-- RES b,r: x = 2 of the 0xCB page (R141). -/
def resPage (y z : BitVec 3) : Instr :=
  sel8 y
    (sel8 z .res_0_b .res_0_c .res_0_d .res_0_e .res_0_h .res_0_l .res_0_atHL .res_0_a)
    (sel8 z .res_1_b .res_1_c .res_1_d .res_1_e .res_1_h .res_1_l .res_1_atHL .res_1_a)
    (sel8 z .res_2_b .res_2_c .res_2_d .res_2_e .res_2_h .res_2_l .res_2_atHL .res_2_a)
    (sel8 z .res_3_b .res_3_c .res_3_d .res_3_e .res_3_h .res_3_l .res_3_atHL .res_3_a)
    (sel8 z .res_4_b .res_4_c .res_4_d .res_4_e .res_4_h .res_4_l .res_4_atHL .res_4_a)
    (sel8 z .res_5_b .res_5_c .res_5_d .res_5_e .res_5_h .res_5_l .res_5_atHL .res_5_a)
    (sel8 z .res_6_b .res_6_c .res_6_d .res_6_e .res_6_h .res_6_l .res_6_atHL .res_6_a)
    (sel8 z .res_7_b .res_7_c .res_7_d .res_7_e .res_7_h .res_7_l .res_7_atHL .res_7_a)

/-- SET b,r: x = 3 of the 0xCB page (R141). -/
def setPage (y z : BitVec 3) : Instr :=
  sel8 y
    (sel8 z .set_0_b .set_0_c .set_0_d .set_0_e .set_0_h .set_0_l .set_0_atHL .set_0_a)
    (sel8 z .set_1_b .set_1_c .set_1_d .set_1_e .set_1_h .set_1_l .set_1_atHL .set_1_a)
    (sel8 z .set_2_b .set_2_c .set_2_d .set_2_e .set_2_h .set_2_l .set_2_atHL .set_2_a)
    (sel8 z .set_3_b .set_3_c .set_3_d .set_3_e .set_3_h .set_3_l .set_3_atHL .set_3_a)
    (sel8 z .set_4_b .set_4_c .set_4_d .set_4_e .set_4_h .set_4_l .set_4_atHL .set_4_a)
    (sel8 z .set_5_b .set_5_c .set_5_d .set_5_e .set_5_h .set_5_l .set_5_atHL .set_5_a)
    (sel8 z .set_6_b .set_6_c .set_6_d .set_6_e .set_6_h .set_6_l .set_6_atHL .set_6_a)
    (sel8 z .set_7_b .set_7_c .set_7_d .set_7_e .set_7_h .set_7_l .set_7_atHL .set_7_a)

/-- The bit-operations page (R141, R366). -/
def cbPage (op2 : Byte) : Entry :=
  sel4 (fieldX op2) (if fieldY op2 = 7 then .one (srlRow (fieldZ op2)) else .undef)
    (.one (bitPage (fieldY op2) (fieldZ op2))) (.one (resPage (fieldY op2) (fieldZ op2)))
    (.one (setPage (fieldY op2) (fieldZ op2)))

/-- The extended page (R142). -/
def edPage (op2 : Byte) : Entry :=
  if op2 = 0x44 then .one .neg
  else if op2 = 0x4B then .word .ld_bc_atNN
  else if op2 = 0x5B then .word .ld_de_atNN
  else if op2 = 0x43 then .word .ld_atNN_bc
  else if op2 = 0x53 then .word .ld_atNN_de
  else if op2 = 0x7B then .word .ld_sp_atNN
  else if op2 = 0x73 then .word .ld_atNN_sp
  else .undef

/-- The indexed page of IX, prefix 0xDD (R143). -/
def ixPage (cfg : Config) (op2 : Byte) : Entry :=
  if op2 = 0x21 then .word .ld_ix_nn
  else if op2 = 0xE5 then .one .push_ix
  else if op2 = 0xE1 then .one .pop_ix
  else if op2 = 0x46 then admitted (decide (.b ∈ cfg.idxLoadRegs)) (.byte .ld_b_atIX)
  else if op2 = 0x4E then admitted (decide (.c ∈ cfg.idxLoadRegs)) (.byte .ld_c_atIX)
  else if op2 = 0x56 then admitted (decide (.d ∈ cfg.idxLoadRegs)) (.byte .ld_d_atIX)
  else if op2 = 0x5E then admitted (decide (.e ∈ cfg.idxLoadRegs)) (.byte .ld_e_atIX)
  else if op2 = 0x66 then admitted (decide (.h ∈ cfg.idxLoadRegs)) (.byte .ld_h_atIX)
  else if op2 = 0x6E then admitted (decide (.l ∈ cfg.idxLoadRegs)) (.byte .ld_l_atIX)
  else if op2 = 0x7E then admitted (decide (.a ∈ cfg.idxLoadRegs)) (.byte .ld_a_atIX)
  else if op2 = 0x09 then admitted (decide (.bc = cfg.idxAddPair)) (.one .add_ix_bc)
  else if op2 = 0x19 then admitted (decide (.de = cfg.idxAddPair)) (.one .add_ix_de)
  else if op2 = 0x29 then admitted (decide (.self = cfg.idxAddPair)) (.one .add_ix_ix)
  else if op2 = 0x39 then admitted (decide (.sp = cfg.idxAddPair)) (.one .add_ix_sp)
  else .undef

/-- The indexed page of IY, prefix 0xFD (R143). -/
def iyPage (cfg : Config) (op2 : Byte) : Entry :=
  if op2 = 0x21 then .word .ld_iy_nn
  else if op2 = 0xE5 then .one .push_iy
  else if op2 = 0xE1 then .one .pop_iy
  else if op2 = 0x46 then admitted (decide (.b ∈ cfg.idxLoadRegs)) (.byte .ld_b_atIY)
  else if op2 = 0x4E then admitted (decide (.c ∈ cfg.idxLoadRegs)) (.byte .ld_c_atIY)
  else if op2 = 0x56 then admitted (decide (.d ∈ cfg.idxLoadRegs)) (.byte .ld_d_atIY)
  else if op2 = 0x5E then admitted (decide (.e ∈ cfg.idxLoadRegs)) (.byte .ld_e_atIY)
  else if op2 = 0x66 then admitted (decide (.h ∈ cfg.idxLoadRegs)) (.byte .ld_h_atIY)
  else if op2 = 0x6E then admitted (decide (.l ∈ cfg.idxLoadRegs)) (.byte .ld_l_atIY)
  else if op2 = 0x7E then admitted (decide (.a ∈ cfg.idxLoadRegs)) (.byte .ld_a_atIY)
  else if op2 = 0x09 then admitted (decide (.bc = cfg.idxAddPair)) (.one .add_iy_bc)
  else if op2 = 0x19 then admitted (decide (.de = cfg.idxAddPair)) (.one .add_iy_de)
  else if op2 = 0x29 then admitted (decide (.self = cfg.idxAddPair)) (.one .add_iy_iy)
  else if op2 = 0x39 then admitted (decide (.sp = cfg.idxAddPair)) (.one .add_iy_sp)
  else .undef

/-- Decode the instruction that begins with the bytes b0 b1 b2 b3, four being the longest (R120, R122, R154). A
prefix that the configuration does not admit is a decode error of one byte (R150). -/
def decode (cfg : Config) (b0 b1 b2 b3 : Byte) : Decoded :=
  if b0 = 0xCB then (cbPage b1).finish [b0, b1] b2 b3
  else if b0 = 0xED then (edPage b1).finish [b0, b1] b2 b3
  else if b0 = 0xDD ∧ cfg.admitsIdx .ix = true then (ixPage cfg b1).finish [b0, b1] b2 b3
  else if b0 = 0xFD ∧ cfg.admitsIdx .iy = true then (iyPage cfg b1).finish [b0, b1] b2 b3
  else (mainPage cfg b0).finish [b0] b1 b2

/-- Decode from the head of a list, in memory that holds zeros after it. -/
def decodeBytes (cfg : Config) (bs : List Byte) : Decoded :=
  decode cfg (bs.getD 0 0) (bs.getD 1 0) (bs.getD 2 0) (bs.getD 3 0)

/-- The length of an admitted instruction, from its first two bytes, by the table of R154. -/
def lengthOf (b0 b1 : Byte) : Nat :=
  if b0 ∈ [0x06, 0x0E, 0x16, 0x1E, 0x26, 0x2E, 0x36, 0x3E, 0xC6, 0xCE, 0xD6, 0xDE, 0xE6, 0xEE, 0xF6, 0xFE,
      0x10, 0x18, 0x20, 0x28, 0x30, 0x38] then 2
  else if b0 ∈ [0x01, 0x11, 0x21, 0x31, 0x22, 0x2A, 0x32, 0x3A, 0xC3, 0xC2, 0xCA, 0xD2, 0xDA, 0xCD, 0xC4, 0xCC,
      0xD4, 0xDC] then 3
  else if b0 = 0xCB then 2
  else if b0 = 0xED then (if b1 = 0x44 then 2 else 4)
  else if b0 = 0xDD ∨ b0 = 0xFD then
    (if b1 = 0x21 then 4 else if b1 ∈ [0x46, 0x4E, 0x56, 0x5E, 0x66, 0x6E, 0x7E] then 3 else 2)
  else 1

/-! ### Encoding -/

/-- The bytes of an instruction, first byte first: the rows of opcode_table.json (R120, R136, R88). -/
def encode : Instr → List Byte
  | .nop => [0x00]
  | .ld_b_b => [0x40]
  | .ld_b_c => [0x41]
  | .ld_b_d => [0x42]
  | .ld_b_e => [0x43]
  | .ld_b_h => [0x44]
  | .ld_b_l => [0x45]
  | .ld_b_atHL => [0x46]
  | .ld_b_a => [0x47]
  | .ld_c_b => [0x48]
  | .ld_c_c => [0x49]
  | .ld_c_d => [0x4A]
  | .ld_c_e => [0x4B]
  | .ld_c_h => [0x4C]
  | .ld_c_l => [0x4D]
  | .ld_c_atHL => [0x4E]
  | .ld_c_a => [0x4F]
  | .ld_d_b => [0x50]
  | .ld_d_c => [0x51]
  | .ld_d_d => [0x52]
  | .ld_d_e => [0x53]
  | .ld_d_h => [0x54]
  | .ld_d_l => [0x55]
  | .ld_d_atHL => [0x56]
  | .ld_d_a => [0x57]
  | .ld_e_b => [0x58]
  | .ld_e_c => [0x59]
  | .ld_e_d => [0x5A]
  | .ld_e_e => [0x5B]
  | .ld_e_h => [0x5C]
  | .ld_e_l => [0x5D]
  | .ld_e_atHL => [0x5E]
  | .ld_e_a => [0x5F]
  | .ld_h_b => [0x60]
  | .ld_h_c => [0x61]
  | .ld_h_d => [0x62]
  | .ld_h_e => [0x63]
  | .ld_h_h => [0x64]
  | .ld_h_l => [0x65]
  | .ld_h_atHL => [0x66]
  | .ld_h_a => [0x67]
  | .ld_l_b => [0x68]
  | .ld_l_c => [0x69]
  | .ld_l_d => [0x6A]
  | .ld_l_e => [0x6B]
  | .ld_l_h => [0x6C]
  | .ld_l_l => [0x6D]
  | .ld_l_atHL => [0x6E]
  | .ld_l_a => [0x6F]
  | .ld_atHL_b => [0x70]
  | .ld_atHL_c => [0x71]
  | .ld_atHL_d => [0x72]
  | .ld_atHL_e => [0x73]
  | .ld_atHL_h => [0x74]
  | .ld_atHL_l => [0x75]
  | .ld_atHL_a => [0x77]
  | .ld_a_b => [0x78]
  | .ld_a_c => [0x79]
  | .ld_a_d => [0x7A]
  | .ld_a_e => [0x7B]
  | .ld_a_h => [0x7C]
  | .ld_a_l => [0x7D]
  | .ld_a_atHL => [0x7E]
  | .ld_a_a => [0x7F]
  | .ld_b_n n => [0x06, n]
  | .ld_c_n n => [0x0E, n]
  | .ld_d_n n => [0x16, n]
  | .ld_e_n n => [0x1E, n]
  | .ld_h_n n => [0x26, n]
  | .ld_l_n n => [0x2E, n]
  | .ld_atHL_n n => [0x36, n]
  | .ld_a_n n => [0x3E, n]
  | .ld_bc_nn nn => [0x01, loByte nn, hiByte nn]
  | .ld_de_nn nn => [0x11, loByte nn, hiByte nn]
  | .ld_hl_nn nn => [0x21, loByte nn, hiByte nn]
  | .ld_sp_nn nn => [0x31, loByte nn, hiByte nn]
  | .ld_a_atBC => [0x0A]
  | .ld_a_atDE => [0x1A]
  | .ld_atBC_a => [0x02]
  | .ld_atDE_a => [0x12]
  | .ld_a_atNN nn => [0x3A, loByte nn, hiByte nn]
  | .ld_atNN_a nn => [0x32, loByte nn, hiByte nn]
  | .ld_hl_atNN nn => [0x2A, loByte nn, hiByte nn]
  | .ld_atNN_hl nn => [0x22, loByte nn, hiByte nn]
  | .push_bc => [0xC5]
  | .push_de => [0xD5]
  | .push_hl => [0xE5]
  | .push_af => [0xF5]
  | .pop_bc => [0xC1]
  | .pop_de => [0xD1]
  | .pop_hl => [0xE1]
  | .pop_af => [0xF1]
  | .ex_de_hl => [0xEB]
  | .add_a_b => [0x80]
  | .add_a_c => [0x81]
  | .add_a_d => [0x82]
  | .add_a_e => [0x83]
  | .add_a_h => [0x84]
  | .add_a_l => [0x85]
  | .add_a_atHL => [0x86]
  | .add_a_a => [0x87]
  | .adc_a_b => [0x88]
  | .adc_a_c => [0x89]
  | .adc_a_d => [0x8A]
  | .adc_a_e => [0x8B]
  | .adc_a_h => [0x8C]
  | .adc_a_l => [0x8D]
  | .adc_a_atHL => [0x8E]
  | .adc_a_a => [0x8F]
  | .sub_b => [0x90]
  | .sub_c => [0x91]
  | .sub_d => [0x92]
  | .sub_e => [0x93]
  | .sub_h => [0x94]
  | .sub_l => [0x95]
  | .sub_atHL => [0x96]
  | .sub_a => [0x97]
  | .sbc_a_b => [0x98]
  | .sbc_a_c => [0x99]
  | .sbc_a_d => [0x9A]
  | .sbc_a_e => [0x9B]
  | .sbc_a_h => [0x9C]
  | .sbc_a_l => [0x9D]
  | .sbc_a_atHL => [0x9E]
  | .sbc_a_a => [0x9F]
  | .and_b => [0xA0]
  | .and_c => [0xA1]
  | .and_d => [0xA2]
  | .and_e => [0xA3]
  | .and_h => [0xA4]
  | .and_l => [0xA5]
  | .and_atHL => [0xA6]
  | .and_a => [0xA7]
  | .xor_b => [0xA8]
  | .xor_c => [0xA9]
  | .xor_d => [0xAA]
  | .xor_e => [0xAB]
  | .xor_h => [0xAC]
  | .xor_l => [0xAD]
  | .xor_atHL => [0xAE]
  | .xor_a => [0xAF]
  | .or_b => [0xB0]
  | .or_c => [0xB1]
  | .or_d => [0xB2]
  | .or_e => [0xB3]
  | .or_h => [0xB4]
  | .or_l => [0xB5]
  | .or_atHL => [0xB6]
  | .or_a => [0xB7]
  | .cp_b => [0xB8]
  | .cp_c => [0xB9]
  | .cp_d => [0xBA]
  | .cp_e => [0xBB]
  | .cp_h => [0xBC]
  | .cp_l => [0xBD]
  | .cp_atHL => [0xBE]
  | .cp_a => [0xBF]
  | .add_a_n n => [0xC6, n]
  | .adc_a_n n => [0xCE, n]
  | .sub_n n => [0xD6, n]
  | .sbc_a_n n => [0xDE, n]
  | .and_n n => [0xE6, n]
  | .xor_n n => [0xEE, n]
  | .or_n n => [0xF6, n]
  | .cp_n n => [0xFE, n]
  | .add_hl_bc => [0x09]
  | .add_hl_de => [0x19]
  | .add_hl_hl => [0x29]
  | .add_hl_sp => [0x39]
  | .inc_b => [0x04]
  | .dec_b => [0x05]
  | .inc_c => [0x0C]
  | .dec_c => [0x0D]
  | .inc_d => [0x14]
  | .dec_d => [0x15]
  | .inc_e => [0x1C]
  | .dec_e => [0x1D]
  | .inc_h => [0x24]
  | .dec_h => [0x25]
  | .inc_l => [0x2C]
  | .dec_l => [0x2D]
  | .inc_atHL => [0x34]
  | .dec_atHL => [0x35]
  | .inc_a => [0x3C]
  | .dec_a => [0x3D]
  | .inc_bc => [0x03]
  | .dec_bc => [0x0B]
  | .inc_de => [0x13]
  | .dec_de => [0x1B]
  | .inc_hl => [0x23]
  | .dec_hl => [0x2B]
  | .inc_sp => [0x33]
  | .dec_sp => [0x3B]
  | .rlca => [0x07]
  | .rrca => [0x0F]
  | .rla => [0x17]
  | .rra => [0x1F]
  | .jp_nn nn => [0xC3, loByte nn, hiByte nn]
  | .jp_nz_nn nn => [0xC2, loByte nn, hiByte nn]
  | .jp_z_nn nn => [0xCA, loByte nn, hiByte nn]
  | .jp_nc_nn nn => [0xD2, loByte nn, hiByte nn]
  | .jp_c_nn nn => [0xDA, loByte nn, hiByte nn]
  | .jr_e e => [0x18, e]
  | .jr_nz_e e => [0x20, e]
  | .jr_z_e e => [0x28, e]
  | .jr_nc_e e => [0x30, e]
  | .jr_c_e e => [0x38, e]
  | .djnz_e e => [0x10, e]
  | .call_nn nn => [0xCD, loByte nn, hiByte nn]
  | .call_nz_nn nn => [0xC4, loByte nn, hiByte nn]
  | .call_z_nn nn => [0xCC, loByte nn, hiByte nn]
  | .call_nc_nn nn => [0xD4, loByte nn, hiByte nn]
  | .call_c_nn nn => [0xDC, loByte nn, hiByte nn]
  | .ret => [0xC9]
  | .ret_nz => [0xC0]
  | .ret_z => [0xC8]
  | .ret_nc => [0xD0]
  | .ret_c => [0xD8]
  | .rst_00 => [0xC7]
  | .rst_08 => [0xCF]
  | .rst_10 => [0xD7]
  | .rst_18 => [0xDF]
  | .rst_20 => [0xE7]
  | .rst_28 => [0xEF]
  | .rst_30 => [0xF7]
  | .rst_38 => [0xFF]
  | .scf => [0x37]
  | .ccf => [0x3F]
  | .cpl => [0x2F]
  | .halt => [0x76]
  | .srl_b => [0xCB, 0x38]
  | .srl_c => [0xCB, 0x39]
  | .srl_d => [0xCB, 0x3A]
  | .srl_e => [0xCB, 0x3B]
  | .srl_h => [0xCB, 0x3C]
  | .srl_l => [0xCB, 0x3D]
  | .srl_atHL => [0xCB, 0x3E]
  | .srl_a => [0xCB, 0x3F]
  | .bit_0_b => [0xCB, 0x40]
  | .bit_1_b => [0xCB, 0x48]
  | .bit_2_b => [0xCB, 0x50]
  | .bit_3_b => [0xCB, 0x58]
  | .bit_4_b => [0xCB, 0x60]
  | .bit_5_b => [0xCB, 0x68]
  | .bit_6_b => [0xCB, 0x70]
  | .bit_7_b => [0xCB, 0x78]
  | .bit_0_c => [0xCB, 0x41]
  | .bit_1_c => [0xCB, 0x49]
  | .bit_2_c => [0xCB, 0x51]
  | .bit_3_c => [0xCB, 0x59]
  | .bit_4_c => [0xCB, 0x61]
  | .bit_5_c => [0xCB, 0x69]
  | .bit_6_c => [0xCB, 0x71]
  | .bit_7_c => [0xCB, 0x79]
  | .bit_0_d => [0xCB, 0x42]
  | .bit_1_d => [0xCB, 0x4A]
  | .bit_2_d => [0xCB, 0x52]
  | .bit_3_d => [0xCB, 0x5A]
  | .bit_4_d => [0xCB, 0x62]
  | .bit_5_d => [0xCB, 0x6A]
  | .bit_6_d => [0xCB, 0x72]
  | .bit_7_d => [0xCB, 0x7A]
  | .bit_0_e => [0xCB, 0x43]
  | .bit_1_e => [0xCB, 0x4B]
  | .bit_2_e => [0xCB, 0x53]
  | .bit_3_e => [0xCB, 0x5B]
  | .bit_4_e => [0xCB, 0x63]
  | .bit_5_e => [0xCB, 0x6B]
  | .bit_6_e => [0xCB, 0x73]
  | .bit_7_e => [0xCB, 0x7B]
  | .bit_0_h => [0xCB, 0x44]
  | .bit_1_h => [0xCB, 0x4C]
  | .bit_2_h => [0xCB, 0x54]
  | .bit_3_h => [0xCB, 0x5C]
  | .bit_4_h => [0xCB, 0x64]
  | .bit_5_h => [0xCB, 0x6C]
  | .bit_6_h => [0xCB, 0x74]
  | .bit_7_h => [0xCB, 0x7C]
  | .bit_0_l => [0xCB, 0x45]
  | .bit_1_l => [0xCB, 0x4D]
  | .bit_2_l => [0xCB, 0x55]
  | .bit_3_l => [0xCB, 0x5D]
  | .bit_4_l => [0xCB, 0x65]
  | .bit_5_l => [0xCB, 0x6D]
  | .bit_6_l => [0xCB, 0x75]
  | .bit_7_l => [0xCB, 0x7D]
  | .bit_0_atHL => [0xCB, 0x46]
  | .bit_1_atHL => [0xCB, 0x4E]
  | .bit_2_atHL => [0xCB, 0x56]
  | .bit_3_atHL => [0xCB, 0x5E]
  | .bit_4_atHL => [0xCB, 0x66]
  | .bit_5_atHL => [0xCB, 0x6E]
  | .bit_6_atHL => [0xCB, 0x76]
  | .bit_7_atHL => [0xCB, 0x7E]
  | .bit_0_a => [0xCB, 0x47]
  | .bit_1_a => [0xCB, 0x4F]
  | .bit_2_a => [0xCB, 0x57]
  | .bit_3_a => [0xCB, 0x5F]
  | .bit_4_a => [0xCB, 0x67]
  | .bit_5_a => [0xCB, 0x6F]
  | .bit_6_a => [0xCB, 0x77]
  | .bit_7_a => [0xCB, 0x7F]
  | .res_0_b => [0xCB, 0x80]
  | .res_1_b => [0xCB, 0x88]
  | .res_2_b => [0xCB, 0x90]
  | .res_3_b => [0xCB, 0x98]
  | .res_4_b => [0xCB, 0xA0]
  | .res_5_b => [0xCB, 0xA8]
  | .res_6_b => [0xCB, 0xB0]
  | .res_7_b => [0xCB, 0xB8]
  | .res_0_c => [0xCB, 0x81]
  | .res_1_c => [0xCB, 0x89]
  | .res_2_c => [0xCB, 0x91]
  | .res_3_c => [0xCB, 0x99]
  | .res_4_c => [0xCB, 0xA1]
  | .res_5_c => [0xCB, 0xA9]
  | .res_6_c => [0xCB, 0xB1]
  | .res_7_c => [0xCB, 0xB9]
  | .res_0_d => [0xCB, 0x82]
  | .res_1_d => [0xCB, 0x8A]
  | .res_2_d => [0xCB, 0x92]
  | .res_3_d => [0xCB, 0x9A]
  | .res_4_d => [0xCB, 0xA2]
  | .res_5_d => [0xCB, 0xAA]
  | .res_6_d => [0xCB, 0xB2]
  | .res_7_d => [0xCB, 0xBA]
  | .res_0_e => [0xCB, 0x83]
  | .res_1_e => [0xCB, 0x8B]
  | .res_2_e => [0xCB, 0x93]
  | .res_3_e => [0xCB, 0x9B]
  | .res_4_e => [0xCB, 0xA3]
  | .res_5_e => [0xCB, 0xAB]
  | .res_6_e => [0xCB, 0xB3]
  | .res_7_e => [0xCB, 0xBB]
  | .res_0_h => [0xCB, 0x84]
  | .res_1_h => [0xCB, 0x8C]
  | .res_2_h => [0xCB, 0x94]
  | .res_3_h => [0xCB, 0x9C]
  | .res_4_h => [0xCB, 0xA4]
  | .res_5_h => [0xCB, 0xAC]
  | .res_6_h => [0xCB, 0xB4]
  | .res_7_h => [0xCB, 0xBC]
  | .res_0_l => [0xCB, 0x85]
  | .res_1_l => [0xCB, 0x8D]
  | .res_2_l => [0xCB, 0x95]
  | .res_3_l => [0xCB, 0x9D]
  | .res_4_l => [0xCB, 0xA5]
  | .res_5_l => [0xCB, 0xAD]
  | .res_6_l => [0xCB, 0xB5]
  | .res_7_l => [0xCB, 0xBD]
  | .res_0_atHL => [0xCB, 0x86]
  | .res_1_atHL => [0xCB, 0x8E]
  | .res_2_atHL => [0xCB, 0x96]
  | .res_3_atHL => [0xCB, 0x9E]
  | .res_4_atHL => [0xCB, 0xA6]
  | .res_5_atHL => [0xCB, 0xAE]
  | .res_6_atHL => [0xCB, 0xB6]
  | .res_7_atHL => [0xCB, 0xBE]
  | .res_0_a => [0xCB, 0x87]
  | .res_1_a => [0xCB, 0x8F]
  | .res_2_a => [0xCB, 0x97]
  | .res_3_a => [0xCB, 0x9F]
  | .res_4_a => [0xCB, 0xA7]
  | .res_5_a => [0xCB, 0xAF]
  | .res_6_a => [0xCB, 0xB7]
  | .res_7_a => [0xCB, 0xBF]
  | .set_0_b => [0xCB, 0xC0]
  | .set_1_b => [0xCB, 0xC8]
  | .set_2_b => [0xCB, 0xD0]
  | .set_3_b => [0xCB, 0xD8]
  | .set_4_b => [0xCB, 0xE0]
  | .set_5_b => [0xCB, 0xE8]
  | .set_6_b => [0xCB, 0xF0]
  | .set_7_b => [0xCB, 0xF8]
  | .set_0_c => [0xCB, 0xC1]
  | .set_1_c => [0xCB, 0xC9]
  | .set_2_c => [0xCB, 0xD1]
  | .set_3_c => [0xCB, 0xD9]
  | .set_4_c => [0xCB, 0xE1]
  | .set_5_c => [0xCB, 0xE9]
  | .set_6_c => [0xCB, 0xF1]
  | .set_7_c => [0xCB, 0xF9]
  | .set_0_d => [0xCB, 0xC2]
  | .set_1_d => [0xCB, 0xCA]
  | .set_2_d => [0xCB, 0xD2]
  | .set_3_d => [0xCB, 0xDA]
  | .set_4_d => [0xCB, 0xE2]
  | .set_5_d => [0xCB, 0xEA]
  | .set_6_d => [0xCB, 0xF2]
  | .set_7_d => [0xCB, 0xFA]
  | .set_0_e => [0xCB, 0xC3]
  | .set_1_e => [0xCB, 0xCB]
  | .set_2_e => [0xCB, 0xD3]
  | .set_3_e => [0xCB, 0xDB]
  | .set_4_e => [0xCB, 0xE3]
  | .set_5_e => [0xCB, 0xEB]
  | .set_6_e => [0xCB, 0xF3]
  | .set_7_e => [0xCB, 0xFB]
  | .set_0_h => [0xCB, 0xC4]
  | .set_1_h => [0xCB, 0xCC]
  | .set_2_h => [0xCB, 0xD4]
  | .set_3_h => [0xCB, 0xDC]
  | .set_4_h => [0xCB, 0xE4]
  | .set_5_h => [0xCB, 0xEC]
  | .set_6_h => [0xCB, 0xF4]
  | .set_7_h => [0xCB, 0xFC]
  | .set_0_l => [0xCB, 0xC5]
  | .set_1_l => [0xCB, 0xCD]
  | .set_2_l => [0xCB, 0xD5]
  | .set_3_l => [0xCB, 0xDD]
  | .set_4_l => [0xCB, 0xE5]
  | .set_5_l => [0xCB, 0xED]
  | .set_6_l => [0xCB, 0xF5]
  | .set_7_l => [0xCB, 0xFD]
  | .set_0_atHL => [0xCB, 0xC6]
  | .set_1_atHL => [0xCB, 0xCE]
  | .set_2_atHL => [0xCB, 0xD6]
  | .set_3_atHL => [0xCB, 0xDE]
  | .set_4_atHL => [0xCB, 0xE6]
  | .set_5_atHL => [0xCB, 0xEE]
  | .set_6_atHL => [0xCB, 0xF6]
  | .set_7_atHL => [0xCB, 0xFE]
  | .set_0_a => [0xCB, 0xC7]
  | .set_1_a => [0xCB, 0xCF]
  | .set_2_a => [0xCB, 0xD7]
  | .set_3_a => [0xCB, 0xDF]
  | .set_4_a => [0xCB, 0xE7]
  | .set_5_a => [0xCB, 0xEF]
  | .set_6_a => [0xCB, 0xF7]
  | .set_7_a => [0xCB, 0xFF]
  | .neg => [0xED, 0x44]
  | .ld_bc_atNN nn => [0xED, 0x4B, loByte nn, hiByte nn]
  | .ld_de_atNN nn => [0xED, 0x5B, loByte nn, hiByte nn]
  | .ld_atNN_bc nn => [0xED, 0x43, loByte nn, hiByte nn]
  | .ld_atNN_de nn => [0xED, 0x53, loByte nn, hiByte nn]
  | .ld_sp_atNN nn => [0xED, 0x7B, loByte nn, hiByte nn]
  | .ld_atNN_sp nn => [0xED, 0x73, loByte nn, hiByte nn]
  | .ld_ix_nn nn => [0xDD, 0x21, loByte nn, hiByte nn]
  | .push_ix => [0xDD, 0xE5]
  | .pop_ix => [0xDD, 0xE1]
  | .ld_b_atIX d => [0xDD, 0x46, d]
  | .ld_c_atIX d => [0xDD, 0x4E, d]
  | .ld_d_atIX d => [0xDD, 0x56, d]
  | .ld_e_atIX d => [0xDD, 0x5E, d]
  | .ld_h_atIX d => [0xDD, 0x66, d]
  | .ld_l_atIX d => [0xDD, 0x6E, d]
  | .ld_a_atIX d => [0xDD, 0x7E, d]
  | .add_ix_bc => [0xDD, 0x09]
  | .add_ix_de => [0xDD, 0x19]
  | .add_ix_ix => [0xDD, 0x29]
  | .add_ix_sp => [0xDD, 0x39]
  | .ld_iy_nn nn => [0xFD, 0x21, loByte nn, hiByte nn]
  | .push_iy => [0xFD, 0xE5]
  | .pop_iy => [0xFD, 0xE1]
  | .ld_b_atIY d => [0xFD, 0x46, d]
  | .ld_c_atIY d => [0xFD, 0x4E, d]
  | .ld_d_atIY d => [0xFD, 0x56, d]
  | .ld_e_atIY d => [0xFD, 0x5E, d]
  | .ld_h_atIY d => [0xFD, 0x66, d]
  | .ld_l_atIY d => [0xFD, 0x6E, d]
  | .ld_a_atIY d => [0xFD, 0x7E, d]
  | .add_iy_bc => [0xFD, 0x09]
  | .add_iy_de => [0xFD, 0x19]
  | .add_iy_iy => [0xFD, 0x29]
  | .add_iy_sp => [0xFD, 0x39]

/-! ### The opcode table's numbers -/

/-- A number's bytes, least significant first. -/
def bytesOf : Nat → Nat → List Byte
  | 0, _ => []
  | k + 1, w => BitVec.ofNat 8 w :: bytesOf k (w / 256)

/-- Whether a byte is one of the four prefix bytes (R14). -/
def isPrefixByte (b : Byte) : Bool := decide (b ∈ [0xCB, 0xED, 0xDD, 0xFD])

/-- The bytes, in memory order, of a word of opcode_table.json. A byte has its bits 7..0 and a later byte counts on
from them, but the table numbers a prefixed row by its `match`, whose first byte (the prefix) is bits 15..8: so where
bits 15..8 are a prefix byte, the two opcode bytes change places; but not where bits 7..0 are 0xCB, which is the second
byte of no prefixed row but SET 1,E, whose two bytes are equal (log entry 11). -/
def tableBytes (nbits w : Nat) : List Byte :=
  match bytesOf (nbits / 8) w with
  | b0 :: b1 :: bs => if isPrefixByte b1 && b0 ≠ 0xCB then b1 :: b0 :: bs else b0 :: b1 :: bs
  | bs => bs

/-- The configuration, changed in the fields that select the row of the opcode bytes b0 b1, so that the row is
admitted (R151; log entry 10). -/
def Config.selecting (cfg : Config) (b0 b1 : Byte) : Config :=
  let prefixed : Config := { cfg with idxPrefixes := [.ix, .iy] }
  if b0 = 0x07 ∨ b0 = 0x0F then { cfg with rotAccOps := [.rlca, .rrca] }
  else if b0 = 0x17 ∨ b0 = 0x1F then { cfg with rotAccOps := [.rla, .rra] }
  else if b0 = 0xDD ∨ b0 = 0xFD then
    if b1 ∈ [0x46, 0x4E, 0x56, 0x7E] then { prefixed with idxLoadRegs := [.b, .c, .d, .a] }
    else if b1 ∈ [0x5E, 0x66, 0x6E] then { prefixed with idxLoadRegs := [.e, .h, .l, .a] }
    else if b1 = 0x09 then { prefixed with idxAddPair := .bc }
    else if b1 = 0x19 then { prefixed with idxAddPair := .de }
    else if b1 = 0x29 then { prefixed with idxAddPair := .self }
    else if b1 = 0x39 then { prefixed with idxAddPair := .sp }
    else prefixed
  else cfg

/-- The configuration under which the bytes are read: `cfg` itself where it admits them, and else `cfg` with the row
selected (log entry 10). -/
def Config.admitting (cfg : Config) (bs : List Byte) : Config :=
  match decodeBytes cfg bs with
  | .instr _ _ => cfg
  | .undecodable _ => cfg.selecting (bs.getD 0 0) (bs.getD 1 0)

/-- The instruction decode reads from a word of opcode_table.json, the bits above `nbits` zero. -/
def decodeTableWord (nbits w : Nat) : Option Instr :=
  match decodeBytes (Config.vectors.admitting (tableBytes nbits w)) (tableBytes nbits w) with
  | .instr i _ => some i
  | .undecodable _ => none

end Sys2Proof
end

