-- ==== Sys2Proof/Machine/HostCalls.lean ====
section
/-! DEFINITION. The two host entry points a step performs in place of an instruction (46_halt_host.md R450 to
R456). -/

namespace Sys2Proof.Machine

/-- The output after the character c is printed: the line terminator closes the line and is not stored; every other
code is appended to it (R450, R451). -/
def State.print (s : State) (c : Byte) : State :=
  if c = s.cfg.newlineCode then { s with lines := s.lines ++ [s.partialLine], partialLine := [] }
  else { s with partialLine := s.partialLine ++ [c] }

/-- Discard the captured output (R455). -/
def State.clearOutput (s : State) : State := { s with lines := [], partialLine := [] }

/-- The print-character service: A is printed, then the host return (R450, R452, R453). -/
def printService (s : State) : State := (s.print s.a).popPc

/-- The clear-screen service: the output is discarded, the cells of `clsInit` are written in order, then the host
return (R455, R456). -/
def clearScreen (s : State) : State := (s.clearOutput.writeCells s.cfg.clsInit).popPc

end Sys2Proof.Machine
end

