-- ==== Sys2Proof/Machine/RunLoop.lean ====
section
/-! DEFINITION. The parts of one step of the run loop (60_exceptions.md R501, R502): the counter, the checks that
come before decode, fetch, and the placing of an instruction where the next step fetches it. -/

namespace Sys2Proof.Machine

/-- `counter <- counter + 1` (R501, R505). -/
def State.tick (s : State) : State := { s with counter := s.counter + 1 }

/-- What a step does before decode, in the order of R502: the cycle limit (R512), the sentinel (R460, R513), the
print service, the clear-screen service. `none`: the step goes on to decode. -/
def State.beforeDecode (s : State) : Option State :=
  if s.counter > s.cfg.cycleLimit then some (s.stop (.cycleLimitExceeded s.counter))
  else if s.pc = 0x0000 then some (s.stop .returned)
  else if s.pc = s.cfg.printAddr then some (printService s)
  else if s.pc = s.cfg.clsAddr then some (clearScreen s)
  else none

/-- Decode the bytes at PC (R121, R122). Reading has no side effect, so the bytes past the instruction's end that
decode is given and does not use are not observable (R82, R90). -/
def State.fetch (s : State) : Decoded :=
  decode s.cfg (s.readByte s.pc) (s.readByte (s.pc + 1)) (s.readByte (s.pc + 2)) (s.readByte (s.pc + 3))

/-- PC past an instruction of n bytes, wrapping (R121). -/
def State.advance (s : State) (n : Nat) : State := s.setPc (s.pc + BitVec.ofNat 16 n)

/-- A decode error at PC: nothing but the status changes (R150, R510). -/
def State.decodeFails (s : State) (bytes : List Byte) : State := s.stop (.decodeError s.pc bytes)

/-- Whether a step that begins with this PC performs no instruction of its own (R501, R559). -/
def State.intercepted (s : State) (a : Word) : Bool :=
  decide (a = 0x0000) || decide (a = s.cfg.printAddr) || decide (a = s.cfg.clsAddr)

/-- Where a program is put and started: at PC where PC holds a value that no check intercepts, else at the first of
three addresses, of which at most two are intercepted (log entry 10). -/
def State.startAddr (s : State) : Word :=
  if s.pcSet = true ∧ s.intercepted s.pc = false then s.pc
  else if s.intercepted 0x4000 = false then 0x4000
  else if s.intercepted 0x4001 = false then 0x4001
  else 0x4002

/-- A word of opcode_table.json stored where the next step fetches, four bytes with zeros after the table's bits: the
host's `load` and `run` (R531, R503) with the configuration that admits the row (log entry 10). -/
def State.placeWord (s : State) (nbits w : Nat) : State :=
  State.writeBlock
    { s with
      cfg := s.cfg.admitting (tableBytes nbits w), pc := s.startAddr, pcSet := true, counter := 0,
      status := .running }
    s.startAddr ((tableBytes nbits w ++ [0, 0, 0, 0]).take 4)

end Sys2Proof.Machine
end

