-- ==== Sys2Proof/Machine/Step.lean ====
section
/-! DEFINITION. One step of the run loop (60_exceptions.md R501). -/

namespace Sys2Proof.Machine

/-- One step: refused under a configuration the model does not accept or while PC has no value, a fault when the run
is over; else the counter, the checks, and an instruction, each a next state. A terminal outcome is a next state whose
status names it (log entry 7). -/
def step (s : State) : Host.Outcome State Fault Refusal :=
  if s.cfg.ok = false then .refused .configRejected
  else if s.status ≠ .running then .fault .runOver
  else if s.pcSet = false then .refused .pcUnset
  else
    match s.tick.beforeDecode with
    | some t => .next t
    | none =>
      match s.tick.fetch with
      | .instr i n => exec i (s.tick.advance n)
      | .undecodable bytes => .next (s.tick.decodeFails bytes)

/-- `s` with a word of opcode_table.json where `step` fetches its next instruction (log entry 10). -/
def State.withFetchWord (s : State) (nbits w : Nat) : State := s.placeWord nbits w

end Sys2Proof.Machine
end

