-- ==== Sys2Proof/Machine/HostOps.lean ====
section
/-! DEFINITION. The operations the host may perform between runs (60_exceptions.md R503, R530 to R536;
70_reset_and_hazards.md R552, R553). A scenario is made by `State.create` (R550). -/

namespace Sys2Proof.Machine

/-- What the host can name: every register and every pair view (R530). -/
inductive HostReg
  | r8 (r : Reg8)
  | f
  | r16 (r : Reg16)
  | pc
  deriving DecidableEq, Repr

/-- The host's read of a register; `none` is the refused read of PC without a value (R530, D44). -/
def State.readReg (s : State) : HostReg → Option Nat
  | .r8 r => some (s.reg r).toNat
  | .f => some s.f.toNat
  | .r16 r => some (s.reg16 r).toNat
  | .pc => if s.pcSet then some s.pc.toNat else none

/-- The host's write of a register, masked to its width; a write of PC gives it a value (R530). -/
def State.writeReg (s : State) (r : HostReg) (v : Nat) : State :=
  match r with
  | .r8 r => s.setReg r (BitVec.ofNat 8 v)
  | .f => s.setF (BitVec.ofNat 8 v)
  | .r16 r => s.setReg16 r (BitVec.ofNat 16 v)
  | .pc => { s with pc := BitVec.ofNat 16 v, pcSet := true }

/-- The host's write of one flag by name: only that bit changes (R530). -/
def State.writeFlag (s : State) (fl : Flag) (v : Bool) : State := s.setF (setFlag s.f fl v)

/-- `load(bytes, base)` (R531, R87). -/
def State.load (s : State) (bytes : List Byte) (base : Nat) : State :=
  s.writeBlock (BitVec.ofNat 16 base) bytes

/-- Peek a byte (R532). -/
def State.peekByte (s : State) (a : Nat) : Byte := s.readByte (BitVec.ofNat 16 a)

/-- Peek a word (R532). -/
def State.peekWord (s : State) (a : Nat) : Word := s.readWord (BitVec.ofNat 16 a)

/-- Poke a byte, masked (R532). -/
def State.pokeByte (s : State) (a v : Nat) : State := s.writeByte (BitVec.ofNat 16 a) (BitVec.ofNat 8 v)

/-- Poke a word, masked (R532). -/
def State.pokeWord (s : State) (a v : Nat) : State := s.writeWord (BitVec.ofNat 16 a) (BitVec.ofNat 16 v)

/-- Append one key code at the tail, masked to keyWidth (R533, R44). -/
def State.appendKey (s : State) (v : Nat) : State :=
  { s with queue := s.queue ++ [BitVec.ofNat 16 (v % s.cfg.keyWidth.bound)] }

/-- Read the output buffer (R534). -/
def State.output (s : State) : List (List Byte) × List Byte := (s.lines, s.partialLine)

/-- The sentinel push: the word 0x0000, as the stack would (R553). -/
def State.pushSentinel (s : State) : State := s.push16 0x0000

/-- What `run` writes before its first step (R503). -/
def State.beginRun (s : State) (start : Nat) (haltPolicy : Bool) : State :=
  { s with pc := BitVec.ofNat 16 start, pcSet := true, counter := 0, status := .running, haltPolicy := haltPolicy }

/-- `repeat step() until status != running` (R503), for at most k steps. -/
def runLoop : Nat → State → Result
  | 0, s => .next s
  | k + 1, s =>
    if s.status = .running then
      match step s with
      | .next t => runLoop k t
      | .fault r => .fault r
      | .refused r => .refused r
    else .next s

/-- `run(start, haltPolicy)` (R503). A run ends by its cycleLimit + 1-th step at the latest (R504), so that many steps
are enough. The outcome is the end state's status. -/
def State.run (s : State) (start : Nat) (haltPolicy : Bool) : Result :=
  runLoop (s.cfg.cycleLimit + 1) (s.beginRun start haltPolicy)

/-- The host's operations that change the state (R535). A host operation during a run is no move: `run` is one
operation, so every other one falls between runs (R536). -/
inductive HostOp
  | load (bytes : List Byte) (base : Nat)
  | pokeByte (a v : Nat)
  | pokeWord (a v : Nat)
  | writeReg (r : HostReg) (v : Nat)
  | writeFlag (fl : Flag) (v : Bool)
  | appendKey (v : Nat)
  | run (start : Nat) (haltPolicy : Bool)
  deriving DecidableEq, Repr

/-- Perform a host operation (R535). -/
def hostApply (op : HostOp) (s : State) : Result :=
  match op with
  | .load bytes base => .next (s.load bytes base)
  | .pokeByte a v => .next (s.pokeByte a v)
  | .pokeWord a v => .next (s.pokeWord a v)
  | .writeReg r v => .next (s.writeReg r v)
  | .writeFlag fl v => .next (s.writeFlag fl v)
  | .appendKey v => .next (s.appendKey v)
  | .run start haltPolicy => s.run start haltPolicy

end Sys2Proof.Machine
end

