-- ==== Sys2Proof/Safety.lean ====
section
/-! DEFINITION. What counts as a good state and a good end of a run, and what an instruction leaves unchanged, in the
terms statements use. -/

namespace Sys2Proof.Machine

/-- A key code fits the last-key cell (10_state.md R44). -/
def State.keysFit (s : State) : Prop := ∀ k ∈ s.queue, k.toNat < s.cfg.keyWidth.bound

/-- No captured line holds the line terminator (46_halt_host.md R451). -/
def State.outputClean (s : State) : Prop :=
  (∀ line ∈ s.lines, s.cfg.newlineCode ∉ line) ∧ s.cfg.newlineCode ∉ s.partialLine

/-- The counter passes the limit by one at most, and not while the run goes on (60_exceptions.md R504, R505). -/
def State.counterBounded (s : State) : Prop :=
  s.counter ≤ s.cfg.cycleLimit + 1 ∧ (s.status = .running → s.counter ≤ s.cfg.cycleLimit)

/-- The invariant of the machine: memory in canonical form (the model's own representation, log entry 12), key codes of
the cell's width, a clean output buffer, a bounded counter. -/
structure State.Inv (s : State) : Prop where
  mem : s.mem.wf
  keys : s.keysFit
  output : s.outputClean
  counter : s.counterBounded

/-- What a step from `s` that ends the run in `t` leaves to be seen (R537). PC is where the step began under each of the
four outcomes: 0x0000 after `returned`, the HALT's address after halted-no-keys, the failing address after a decode
error, the next instruction's address after cycle-limit-exceeded; and the payload and the counter are the outcome's. -/
def State.EndsWell (s t : State) : Prop :=
  match t.status with
  | .running => True
  | .returned => t.pc = s.pc ∧ t.pc = 0x0000
  | .haltedNoKeys => t.pc = s.pc ∧ t.haltPolicy = true ∧ t.queue = [] ∧ t.lastKey = t.cfg.noKeyValue
  | .decodeError addr bytes => t.pc = s.pc ∧ addr = t.pc ∧ (bytes.length = 1 ∨ bytes.length = 2) ∧
      bytes.head? = some (t.readByte t.pc)
  | .cycleLimitExceeded n => t.pc = s.pc ∧ n = t.counter ∧ n = t.cfg.cycleLimit + 1

/-- The state can take a step: an accepted configuration, a run in progress, a PC with a value. -/
def State.canStep (s : State) : Prop := s.cfg.ok = true ∧ s.status = .running ∧ s.pcSet = true

/-- The step at this state executes an instruction or fails to decode one: no check of R502 before decode applies. -/
def State.dispatches (s : State) : Prop :=
  s.canStep ∧ s.counter < s.cfg.cycleLimit ∧ s.pc ≠ 0x0000 ∧ s.pc ≠ s.cfg.printAddr ∧ s.pc ≠ s.cfg.clsAddr

/-! ### Words for frames -/

/-- Every 8-bit register but those of the list is unchanged. -/
def RegsSame (except : List Reg8) (s t : State) : Prop := ∀ r, r ∉ except → t.reg r = s.reg r

/-- SP, IX and IY are unchanged, but for those of the list. -/
def WideSame (except : List Reg16) (s t : State) : Prop :=
  ∀ r ∈ [Reg16.sp, .ix, .iy], r ∉ except → t.reg16 r = s.reg16 r

/-- F is unchanged, and no free flag byte was drawn. -/
def FlagsSame (s t : State) : Prop := t.f = s.f ∧ t.draws = s.draws

/-- Every byte of memory is unchanged, but for those at the addresses of the list. -/
def MemSameBut (stored : List Word) (s t : State) : Prop := ∀ a, a ∉ stored → t.readByte a = s.readByte a

/-- Everything that is no register, flag or memory is unchanged: the output, the input queue, the run loop's state, the
configuration. -/
def SideSame (s t : State) : Prop :=
  t.pcSet = s.pcSet ∧ t.lines = s.lines ∧ t.partialLine = s.partialLine ∧ t.queue = s.queue ∧
    t.counter = s.counter ∧ t.haltPolicy = s.haltPolicy ∧ t.status = s.status ∧ t.cfg = s.cfg

/-- Nothing but 8-bit registers of the list changed. -/
def OnlyRegs (regs : List Reg8) (s t : State) : Prop :=
  RegsSame regs s t ∧ WideSame [] s t ∧ FlagsSame s t ∧ t.pc = s.pc ∧ MemSameBut [] s t ∧ SideSame s t

/-- Nothing but 8-bit registers of the list and F changed, and no free flag byte was drawn. -/
def OnlyRegsAndF (regs : List Reg8) (s t : State) : Prop :=
  RegsSame regs s t ∧ WideSame [] s t ∧ t.draws = s.draws ∧ t.pc = s.pc ∧ MemSameBut [] s t ∧ SideSame s t

/-- Nothing but the bytes at the addresses of the list changed. -/
def OnlyMem (stored : List Word) (s t : State) : Prop :=
  RegsSame [] s t ∧ WideSame [] s t ∧ FlagsSame s t ∧ t.pc = s.pc ∧ MemSameBut stored s t ∧ SideSame s t

/-- Nothing but PC changed. -/
def OnlyPc (s t : State) : Prop :=
  RegsSame [] s t ∧ WideSame [] s t ∧ FlagsSame s t ∧ MemSameBut [] s t ∧ SideSame s t

/-- Nothing but PC, SP and the two bytes under the old SP changed. -/
def OnlyPcSpAndStack (s t : State) : Prop :=
  RegsSame [] s t ∧ WideSame [.sp] s t ∧ FlagsSame s t ∧ MemSameBut [s.sp - 2, s.sp - 1] s t ∧ SideSame s t

/-- The 8-bit registers a 16-bit register is made of (R33). -/
def halves : Reg16 → List Reg8
  | .bc => [.b, .c]
  | .de => [.d, .e]
  | .hl => [.h, .l]
  | .af => [.a]
  | .sp => []
  | .ix => []
  | .iy => []

/-- The stored bytes of a word at an address: low byte first, the second address wrapping (R84, R85). -/
def WordAt (t : State) (a v : Word) : Prop :=
  (t.readByte a).toNat = v.toNat % 256 ∧ (t.readByte (a + 1)).toNat = v.toNat / 256

/-- The word read at an address, little-endian (R84). -/
def wordAt (s : State) (a : Word) : Word :=
  BitVec.ofNat 16 ((s.readByte a).toNat + 256 * (s.readByte (a + 1)).toNat)

/-! ### Words for flags -/

/-- The eight bits of a flag byte, from bit 7 to bit 0: S Z Y H X P/V N C (R36). -/
def FlagBits (f : Byte) (s z y h x pv n c : Bool) : Prop :=
  f.getLsbD 7 = s ∧ f.getLsbD 6 = z ∧ f.getLsbD 5 = y ∧ f.getLsbD 4 = h ∧
    f.getLsbD 3 = x ∧ f.getLsbD 2 = pv ∧ f.getLsbD 1 = n ∧ f.getLsbD 0 = c

/-- What R48 makes of a flag byte `f` that leaves the bits of `mask` unsettled: outside the mask the bits are those of
`f`; under `decided` all are, and nothing is drawn; under `draw` one free byte is drawn. -/
def Unsettled (mask f : Byte) (s t : State) : Prop :=
  t.f &&& ~~~mask = f &&& ~~~mask ∧
    (s.cfg.unsettledFlagMode = .decided → t.f = f ∧ t.draws = s.draws) ∧
    (s.cfg.unsettledFlagMode = .draw → t.draws = s.draws + 1)

end Sys2Proof.Machine
end

