-- ==== Sys2Proof/Certificates/Slice0/Obligations.lean ====
section
/-! DEFINITION. The statements for the provers, and the words they are written in. A statement about `exec` speaks of
the state after the fetch, whose PC is past the instruction (00_scope.md R13). The opcode bytes in them are those the
spec's rules state, which R3 says are the standard Z80's (log entry 16); which rows are admitted is the matter of the
statements about decode alone. -/

namespace Sys2Proof.Machine

/-! ### Words for the encoding, HALT and the whole machine -/

/-- The flag a condition tests, read from the bits of F (R133, R331, R36). -/
def condHolds (cc : Cond) (f : Byte) : Bool :=
  match cc with
  | .nz => f.getLsbD 6 = false
  | .z => f.getLsbD 6 = true
  | .nc => f.getLsbD 0 = false
  | .c => f.getLsbD 0 = true

/-- The number of a register in the operand selector (R130). -/
def selectorOf : Reg8 → Nat
  | .b => 0
  | .c => 1
  | .d => 2
  | .e => 3
  | .h => 4
  | .l => 5
  | .a => 7

/-- The number of an operation in the ALU field (R134). -/
def aluField : AluOp → Nat
  | .add => 0
  | .adc => 1
  | .sub => 2
  | .sbc => 3
  | .and => 4
  | .xor => 5
  | .or => 6
  | .cp => 7

/-- The prefix byte of an index register (R143). -/
def prefixOf : IdxReg → Byte
  | .ix => 0xDD
  | .iy => 0xFD

/-- The value of the last-key cell, a number (R441, R442). -/
def cellValue (s : State) : Nat :=
  match s.cfg.keyWidth with
  | .one => (s.readByte s.cfg.lastKeyAddr).toNat
  | .two => (s.readByte s.cfg.lastKeyAddr).toNat + 256 * (s.readByte (s.cfg.lastKeyAddr + 1)).toNat

/-- The condition of halted-no-keys (R442). -/
def haltCondition (s : State) : Prop :=
  s.haltPolicy = true ∧ s.queue = [] ∧ cellValue s = s.cfg.noKeyValue.toNat

/-- The instructions that may write SP: LD SP,nn, LD SP,(nn), INC SP, DEC SP, every push and pop, CALL, RET, RST (R40). -/
def mayWriteSp : Instr → Bool
  | .ld_sp_nn _ | .ld_sp_atNN _ | .inc_sp | .dec_sp => true
  | .push_bc | .push_de | .push_hl | .push_af | .push_ix | .push_iy => true
  | .pop_bc | .pop_de | .pop_hl | .pop_af | .pop_ix | .pop_iy => true
  | .call_nn _ | .call_nz_nn _ | .call_z_nn _ | .call_nc_nn _ | .call_c_nn _ => true
  | .ret | .ret_nz | .ret_z | .ret_nc | .ret_c => true
  | .rst_00 | .rst_08 | .rst_10 | .rst_18 | .rst_20 | .rst_28 | .rst_30 | .rst_38 => true
  | _ => false

/-- The rows the configuration selects, read from the opcode bytes (R151): a rotate by `rotAccOps`; an indexed row by
its prefix and, for `ADD XY,pp`, by `idxAddPair` (`IXself` the 0x29 row), for `LD r,(XY+d)`, by `idxLoadRegs`; every
other row always. -/
def rowSelected (cfg : Config) (i : Instr) : Prop :=
  let second (op : Byte) : Prop :=
    op ∈ [0x21, 0xE1, 0xE5] ∨ (op = 0x09 ∧ cfg.idxAddPair = .bc) ∨ (op = 0x19 ∧ cfg.idxAddPair = .de) ∨
      (op = 0x29 ∧ cfg.idxAddPair = .self) ∨ (op = 0x39 ∧ cfg.idxAddPair = .sp) ∨
      ∃ r ∈ cfg.idxLoadRegs, op = BitVec.ofNat 8 (0x46 + 8 * selectorOf r)
  (encode i = [0x07] → RotOp.rlca ∈ cfg.rotAccOps) ∧ (encode i = [0x0F] → RotOp.rrca ∈ cfg.rotAccOps) ∧
    (encode i = [0x17] → RotOp.rla ∈ cfg.rotAccOps) ∧ (encode i = [0x1F] → RotOp.rra ∈ cfg.rotAccOps) ∧
    (∀ op rest, encode i = 0xDD :: op :: rest → IdxReg.ix ∈ cfg.idxPrefixes ∧ second op) ∧
    (∀ op rest, encode i = 0xFD :: op :: rest → IdxReg.iy ∈ cfg.idxPrefixes ∧ second op)

/-! ### The forms of each family, constructor by constructor -/

/-- LD r,r' with r and r' (R201) -/
def ldRegForms : List (Instr × Reg8 × Reg8) :=
  ([(.ld_b_b, .b, .b), (.ld_b_c, .b, .c), (.ld_b_d, .b, .d), (.ld_b_e, .b, .e), (.ld_b_h, .b, .h),
   (.ld_b_l, .b, .l), (.ld_b_a, .b, .a)] : List (Instr × Reg8 × Reg8)) ++
  ([(.ld_c_b, .c, .b), (.ld_c_c, .c, .c), (.ld_c_d, .c, .d), (.ld_c_e, .c, .e), (.ld_c_h, .c, .h),
   (.ld_c_l, .c, .l), (.ld_c_a, .c, .a)] : List (Instr × Reg8 × Reg8)) ++
  ([(.ld_d_b, .d, .b), (.ld_d_c, .d, .c), (.ld_d_d, .d, .d), (.ld_d_e, .d, .e), (.ld_d_h, .d, .h),
   (.ld_d_l, .d, .l), (.ld_d_a, .d, .a)] : List (Instr × Reg8 × Reg8)) ++
  ([(.ld_e_b, .e, .b), (.ld_e_c, .e, .c), (.ld_e_d, .e, .d), (.ld_e_e, .e, .e), (.ld_e_h, .e, .h),
   (.ld_e_l, .e, .l), (.ld_e_a, .e, .a)] : List (Instr × Reg8 × Reg8)) ++
  ([(.ld_h_b, .h, .b), (.ld_h_c, .h, .c), (.ld_h_d, .h, .d), (.ld_h_e, .h, .e), (.ld_h_h, .h, .h),
   (.ld_h_l, .h, .l), (.ld_h_a, .h, .a)] : List (Instr × Reg8 × Reg8)) ++
  ([(.ld_l_b, .l, .b), (.ld_l_c, .l, .c), (.ld_l_d, .l, .d), (.ld_l_e, .l, .e), (.ld_l_h, .l, .h),
   (.ld_l_l, .l, .l), (.ld_l_a, .l, .a)] : List (Instr × Reg8 × Reg8)) ++
  ([(.ld_a_b, .a, .b), (.ld_a_c, .a, .c), (.ld_a_d, .a, .d), (.ld_a_e, .a, .e), (.ld_a_h, .a, .h),
   (.ld_a_l, .a, .l), (.ld_a_a, .a, .a)] : List (Instr × Reg8 × Reg8))

/-- LD r,(HL) with r (R202) -/
def ldFromHlForms : List (Instr × Reg8) :=
  [(.ld_b_atHL, .b), (.ld_c_atHL, .c), (.ld_d_atHL, .d), (.ld_e_atHL, .e), (.ld_h_atHL, .h), (.ld_l_atHL, .l),
   (.ld_a_atHL, .a)]

/-- LD (HL),r with r (R203) -/
def ldToHlForms : List (Instr × Reg8) :=
  [(.ld_atHL_b, .b), (.ld_atHL_c, .c), (.ld_atHL_d, .d), (.ld_atHL_e, .e), (.ld_atHL_h, .h), (.ld_atHL_l, .l),
   (.ld_atHL_a, .a)]

/-- LD r,n with r (R204) -/
def ldImmForms : List ((Byte → Instr) × Reg8) :=
  [(.ld_b_n, .b), (.ld_c_n, .c), (.ld_d_n, .d), (.ld_e_n, .e), (.ld_h_n, .h), (.ld_l_n, .l), (.ld_a_n, .a)]

/-- LD rr,nn and LD XY,nn with the register and the opcode bytes (R210, R211, R411) -/
def ldWideImmForms : List ((Word → Instr) × Reg16 × List Byte) :=
  [(.ld_bc_nn, .bc, [0x01]), (.ld_de_nn, .de, [0x11]), (.ld_hl_nn, .hl, [0x21]), (.ld_sp_nn, .sp, [0x31]),
   (.ld_ix_nn, .ix, [0xDD, 0x21]), (.ld_iy_nn, .iy, [0xFD, 0x21])]

/-- LD HL,(nn), LD BC,(nn), LD DE,(nn), LD SP,(nn) with the register and the opcode bytes (R218, R391, R392, R395) -/
def ldWideDirectForms : List ((Word → Instr) × Reg16 × List Byte) :=
  [(.ld_hl_atNN, .hl, [0x2A]), (.ld_bc_atNN, .bc, [0xED, 0x4B]), (.ld_de_atNN, .de, [0xED, 0x5B]),
   (.ld_sp_atNN, .sp, [0xED, 0x7B])]

/-- LD (nn),HL, LD (nn),BC, LD (nn),DE, LD (nn),SP with the register and the opcode bytes (R219, R393, R394, R396) -/
def stWideDirectForms : List ((Word → Instr) × Reg16 × List Byte) :=
  [(.ld_atNN_hl, .hl, [0x22]), (.ld_atNN_bc, .bc, [0xED, 0x43]), (.ld_atNN_de, .de, [0xED, 0x53]),
   (.ld_atNN_sp, .sp, [0xED, 0x73])]

/-- PUSH with the register pushed and the opcode bytes (R230, R232, R412) -/
def pushForms : List (Instr × Reg16 × List Byte) :=
  [(.push_bc, .bc, [0xC5]), (.push_de, .de, [0xD5]), (.push_hl, .hl, [0xE5]), (.push_af, .af, [0xF5]),
   (.push_ix, .ix, [0xDD, 0xE5]), (.push_iy, .iy, [0xFD, 0xE5])]

/-- POP with the register written and the opcode bytes (R234, R236, R413) -/
def popForms : List (Instr × Reg16 × List Byte) :=
  [(.pop_bc, .bc, [0xC1]), (.pop_de, .de, [0xD1]), (.pop_hl, .hl, [0xE1]), (.pop_af, .af, [0xF1]),
   (.pop_ix, .ix, [0xDD, 0xE1]), (.pop_iy, .iy, [0xFD, 0xE1])]

/-- ADD, ADC with a register operand (R270, R273) -/
def addRegForms : List (Instr × AluOp × Reg8) :=
  ([(.add_a_b, .add, .b), (.add_a_c, .add, .c), (.add_a_d, .add, .d), (.add_a_e, .add, .e),
   (.add_a_h, .add, .h), (.add_a_l, .add, .l), (.add_a_a, .add, .a)] : List (Instr × AluOp × Reg8)) ++
  ([(.adc_a_b, .adc, .b), (.adc_a_c, .adc, .c), (.adc_a_d, .adc, .d), (.adc_a_e, .adc, .e),
   (.adc_a_h, .adc, .h), (.adc_a_l, .adc, .l), (.adc_a_a, .adc, .a)] : List (Instr × AluOp × Reg8))

/-- ADD, ADC with the operand (HL) -/
def addHlForms : List (Instr × AluOp) :=
  [(.add_a_atHL, .add), (.adc_a_atHL, .adc)]

/-- ADD, ADC with an immediate byte -/
def addImmForms : List ((Byte → Instr) × AluOp) :=
  [(.add_a_n, .add), (.adc_a_n, .adc)]

/-- SUB, SBC, CP with a register operand (R276, R279, R291) -/
def subRegForms : List (Instr × AluOp × Reg8) :=
  ([(.sub_b, .sub, .b), (.sub_c, .sub, .c), (.sub_d, .sub, .d), (.sub_e, .sub, .e), (.sub_h, .sub, .h),
   (.sub_l, .sub, .l), (.sub_a, .sub, .a)] : List (Instr × AluOp × Reg8)) ++
  ([(.sbc_a_b, .sbc, .b), (.sbc_a_c, .sbc, .c), (.sbc_a_d, .sbc, .d), (.sbc_a_e, .sbc, .e),
   (.sbc_a_h, .sbc, .h), (.sbc_a_l, .sbc, .l), (.sbc_a_a, .sbc, .a)] : List (Instr × AluOp × Reg8)) ++
  ([(.cp_b, .cp, .b), (.cp_c, .cp, .c), (.cp_d, .cp, .d), (.cp_e, .cp, .e), (.cp_h, .cp, .h), (.cp_l, .cp, .l),
   (.cp_a, .cp, .a)] : List (Instr × AluOp × Reg8))

/-- SUB, SBC, CP with the operand (HL) -/
def subHlForms : List (Instr × AluOp) :=
  [(.sub_atHL, .sub), (.sbc_a_atHL, .sbc), (.cp_atHL, .cp)]

/-- SUB, SBC, CP with an immediate byte -/
def subImmForms : List ((Byte → Instr) × AluOp) :=
  [(.sub_n, .sub), (.sbc_a_n, .sbc), (.cp_n, .cp)]

/-- AND, XOR, OR with a register operand (R282, R285, R288) -/
def logicRegForms : List (Instr × AluOp × Reg8) :=
  ([(.and_b, .and, .b), (.and_c, .and, .c), (.and_d, .and, .d), (.and_e, .and, .e), (.and_h, .and, .h),
   (.and_l, .and, .l), (.and_a, .and, .a)] : List (Instr × AluOp × Reg8)) ++
  ([(.xor_b, .xor, .b), (.xor_c, .xor, .c), (.xor_d, .xor, .d), (.xor_e, .xor, .e), (.xor_h, .xor, .h),
   (.xor_l, .xor, .l), (.xor_a, .xor, .a)] : List (Instr × AluOp × Reg8)) ++
  ([(.or_b, .or, .b), (.or_c, .or, .c), (.or_d, .or, .d), (.or_e, .or, .e), (.or_h, .or, .h), (.or_l, .or, .l),
   (.or_a, .or, .a)] : List (Instr × AluOp × Reg8))

/-- AND, XOR, OR with the operand (HL) -/
def logicHlForms : List (Instr × AluOp) :=
  [(.and_atHL, .and), (.xor_atHL, .xor), (.or_atHL, .or)]

/-- AND, XOR, OR with an immediate byte -/
def logicImmForms : List ((Byte → Instr) × AluOp) :=
  [(.and_n, .and), (.xor_n, .xor), (.or_n, .or)]

/-- ADD HL,rr and ADD XY,pp with the register written, the register added and the opcode bytes (R295, R423) -/
def addWideForms : List (Instr × Reg16 × Reg16 × List Byte) :=
  ([(.add_hl_bc, .hl, .bc, [0x09]), (.add_hl_de, .hl, .de, [0x19]), (.add_hl_hl, .hl, .hl, [0x29]),
   (.add_hl_sp, .hl, .sp, [0x39])] : List (Instr × Reg16 × Reg16 × List Byte)) ++
  ([(.add_ix_bc, .ix, .bc, [0xDD, 0x09]), (.add_ix_de, .ix, .de, [0xDD, 0x19]),
   (.add_ix_ix, .ix, .ix, [0xDD, 0x29]),
   (.add_ix_sp, .ix, .sp, [0xDD, 0x39])] : List (Instr × Reg16 × Reg16 × List Byte)) ++
  ([(.add_iy_bc, .iy, .bc, [0xFD, 0x09]), (.add_iy_de, .iy, .de, [0xFD, 0x19]),
   (.add_iy_iy, .iy, .iy, [0xFD, 0x29]),
   (.add_iy_sp, .iy, .sp, [0xFD, 0x39])] : List (Instr × Reg16 × Reg16 × List Byte))

/-- INC r with r (R300) -/
def incRegForms : List (Instr × Reg8) :=
  [(.inc_b, .b), (.inc_c, .c), (.inc_d, .d), (.inc_e, .e), (.inc_h, .h), (.inc_l, .l), (.inc_a, .a)]

/-- DEC r with r (R302) -/
def decRegForms : List (Instr × Reg8) :=
  [(.dec_b, .b), (.dec_c, .c), (.dec_d, .d), (.dec_e, .e), (.dec_h, .h), (.dec_l, .l), (.dec_a, .a)]

/-- INC rr with rr and the opcode byte (R304) -/
def incWideForms : List (Instr × Reg16 × Byte) :=
  [(.inc_bc, .bc, 0x03), (.inc_de, .de, 0x13), (.inc_hl, .hl, 0x23), (.inc_sp, .sp, 0x33)]

/-- DEC rr with rr and the opcode byte (R305) -/
def decWideForms : List (Instr × Reg16 × Byte) :=
  [(.dec_bc, .bc, 0x0B), (.dec_de, .de, 0x1B), (.dec_hl, .hl, 0x2B), (.dec_sp, .sp, 0x3B)]

/-- JP cc,nn with cc and the opcode byte (R333) -/
def jpIfForms : List ((Word → Instr) × Cond × Byte) :=
  [(.jp_nz_nn, .nz, 0xC2), (.jp_z_nn, .z, 0xCA), (.jp_nc_nn, .nc, 0xD2), (.jp_c_nn, .c, 0xDA)]

/-- JR cc,e with cc and the opcode byte (R335) -/
def jrIfForms : List ((Byte → Instr) × Cond × Byte) :=
  [(.jr_nz_e, .nz, 0x20), (.jr_z_e, .z, 0x28), (.jr_nc_e, .nc, 0x30), (.jr_c_e, .c, 0x38)]

/-- CALL cc,nn with cc and the opcode byte (R338) -/
def callIfForms : List ((Word → Instr) × Cond × Byte) :=
  [(.call_nz_nn, .nz, 0xC4), (.call_z_nn, .z, 0xCC), (.call_nc_nn, .nc, 0xD4), (.call_c_nn, .c, 0xDC)]

/-- RET cc with cc and the opcode byte (R340) -/
def retIfForms : List (Instr × Cond × Byte) :=
  [(.ret_nz, .nz, 0xC0), (.ret_z, .z, 0xC8), (.ret_nc, .nc, 0xD0), (.ret_c, .c, 0xD8)]

/-- RST p with p and the opcode byte (R341) -/
def rstForms : List (Instr × Word × Byte) :=
  [(.rst_00, 0x0000, 0xC7), (.rst_08, 0x0008, 0xCF), (.rst_10, 0x0010, 0xD7), (.rst_18, 0x0018, 0xDF),
   (.rst_20, 0x0020, 0xE7), (.rst_28, 0x0028, 0xEF), (.rst_30, 0x0030, 0xF7), (.rst_38, 0x0038, 0xFF)]

/-- BIT b,r with b and r (R360) -/
def bitRegForms : List (Instr × Nat × Reg8) :=
  ([(.bit_0_b, 0, .b), (.bit_1_b, 1, .b), (.bit_2_b, 2, .b), (.bit_3_b, 3, .b), (.bit_4_b, 4, .b),
   (.bit_5_b, 5, .b), (.bit_6_b, 6, .b), (.bit_7_b, 7, .b)] : List (Instr × Nat × Reg8)) ++
  ([(.bit_0_c, 0, .c), (.bit_1_c, 1, .c), (.bit_2_c, 2, .c), (.bit_3_c, 3, .c), (.bit_4_c, 4, .c),
   (.bit_5_c, 5, .c), (.bit_6_c, 6, .c), (.bit_7_c, 7, .c)] : List (Instr × Nat × Reg8)) ++
  ([(.bit_0_d, 0, .d), (.bit_1_d, 1, .d), (.bit_2_d, 2, .d), (.bit_3_d, 3, .d), (.bit_4_d, 4, .d),
   (.bit_5_d, 5, .d), (.bit_6_d, 6, .d), (.bit_7_d, 7, .d)] : List (Instr × Nat × Reg8)) ++
  ([(.bit_0_e, 0, .e), (.bit_1_e, 1, .e), (.bit_2_e, 2, .e), (.bit_3_e, 3, .e), (.bit_4_e, 4, .e),
   (.bit_5_e, 5, .e), (.bit_6_e, 6, .e), (.bit_7_e, 7, .e)] : List (Instr × Nat × Reg8)) ++
  ([(.bit_0_h, 0, .h), (.bit_1_h, 1, .h), (.bit_2_h, 2, .h), (.bit_3_h, 3, .h), (.bit_4_h, 4, .h),
   (.bit_5_h, 5, .h), (.bit_6_h, 6, .h), (.bit_7_h, 7, .h)] : List (Instr × Nat × Reg8)) ++
  ([(.bit_0_l, 0, .l), (.bit_1_l, 1, .l), (.bit_2_l, 2, .l), (.bit_3_l, 3, .l), (.bit_4_l, 4, .l),
   (.bit_5_l, 5, .l), (.bit_6_l, 6, .l), (.bit_7_l, 7, .l)] : List (Instr × Nat × Reg8)) ++
  ([(.bit_0_a, 0, .a), (.bit_1_a, 1, .a), (.bit_2_a, 2, .a), (.bit_3_a, 3, .a), (.bit_4_a, 4, .a),
   (.bit_5_a, 5, .a), (.bit_6_a, 6, .a), (.bit_7_a, 7, .a)] : List (Instr × Nat × Reg8))

/-- SET b,r with b and r (R362) -/
def setRegForms : List (Instr × Nat × Reg8) :=
  ([(.set_0_b, 0, .b), (.set_1_b, 1, .b), (.set_2_b, 2, .b), (.set_3_b, 3, .b), (.set_4_b, 4, .b),
   (.set_5_b, 5, .b), (.set_6_b, 6, .b), (.set_7_b, 7, .b)] : List (Instr × Nat × Reg8)) ++
  ([(.set_0_c, 0, .c), (.set_1_c, 1, .c), (.set_2_c, 2, .c), (.set_3_c, 3, .c), (.set_4_c, 4, .c),
   (.set_5_c, 5, .c), (.set_6_c, 6, .c), (.set_7_c, 7, .c)] : List (Instr × Nat × Reg8)) ++
  ([(.set_0_d, 0, .d), (.set_1_d, 1, .d), (.set_2_d, 2, .d), (.set_3_d, 3, .d), (.set_4_d, 4, .d),
   (.set_5_d, 5, .d), (.set_6_d, 6, .d), (.set_7_d, 7, .d)] : List (Instr × Nat × Reg8)) ++
  ([(.set_0_e, 0, .e), (.set_1_e, 1, .e), (.set_2_e, 2, .e), (.set_3_e, 3, .e), (.set_4_e, 4, .e),
   (.set_5_e, 5, .e), (.set_6_e, 6, .e), (.set_7_e, 7, .e)] : List (Instr × Nat × Reg8)) ++
  ([(.set_0_h, 0, .h), (.set_1_h, 1, .h), (.set_2_h, 2, .h), (.set_3_h, 3, .h), (.set_4_h, 4, .h),
   (.set_5_h, 5, .h), (.set_6_h, 6, .h), (.set_7_h, 7, .h)] : List (Instr × Nat × Reg8)) ++
  ([(.set_0_l, 0, .l), (.set_1_l, 1, .l), (.set_2_l, 2, .l), (.set_3_l, 3, .l), (.set_4_l, 4, .l),
   (.set_5_l, 5, .l), (.set_6_l, 6, .l), (.set_7_l, 7, .l)] : List (Instr × Nat × Reg8)) ++
  ([(.set_0_a, 0, .a), (.set_1_a, 1, .a), (.set_2_a, 2, .a), (.set_3_a, 3, .a), (.set_4_a, 4, .a),
   (.set_5_a, 5, .a), (.set_6_a, 6, .a), (.set_7_a, 7, .a)] : List (Instr × Nat × Reg8))

/-- RES b,r with b and r (R364) -/
def resRegForms : List (Instr × Nat × Reg8) :=
  ([(.res_0_b, 0, .b), (.res_1_b, 1, .b), (.res_2_b, 2, .b), (.res_3_b, 3, .b), (.res_4_b, 4, .b),
   (.res_5_b, 5, .b), (.res_6_b, 6, .b), (.res_7_b, 7, .b)] : List (Instr × Nat × Reg8)) ++
  ([(.res_0_c, 0, .c), (.res_1_c, 1, .c), (.res_2_c, 2, .c), (.res_3_c, 3, .c), (.res_4_c, 4, .c),
   (.res_5_c, 5, .c), (.res_6_c, 6, .c), (.res_7_c, 7, .c)] : List (Instr × Nat × Reg8)) ++
  ([(.res_0_d, 0, .d), (.res_1_d, 1, .d), (.res_2_d, 2, .d), (.res_3_d, 3, .d), (.res_4_d, 4, .d),
   (.res_5_d, 5, .d), (.res_6_d, 6, .d), (.res_7_d, 7, .d)] : List (Instr × Nat × Reg8)) ++
  ([(.res_0_e, 0, .e), (.res_1_e, 1, .e), (.res_2_e, 2, .e), (.res_3_e, 3, .e), (.res_4_e, 4, .e),
   (.res_5_e, 5, .e), (.res_6_e, 6, .e), (.res_7_e, 7, .e)] : List (Instr × Nat × Reg8)) ++
  ([(.res_0_h, 0, .h), (.res_1_h, 1, .h), (.res_2_h, 2, .h), (.res_3_h, 3, .h), (.res_4_h, 4, .h),
   (.res_5_h, 5, .h), (.res_6_h, 6, .h), (.res_7_h, 7, .h)] : List (Instr × Nat × Reg8)) ++
  ([(.res_0_l, 0, .l), (.res_1_l, 1, .l), (.res_2_l, 2, .l), (.res_3_l, 3, .l), (.res_4_l, 4, .l),
   (.res_5_l, 5, .l), (.res_6_l, 6, .l), (.res_7_l, 7, .l)] : List (Instr × Nat × Reg8)) ++
  ([(.res_0_a, 0, .a), (.res_1_a, 1, .a), (.res_2_a, 2, .a), (.res_3_a, 3, .a), (.res_4_a, 4, .a),
   (.res_5_a, 5, .a), (.res_6_a, 6, .a), (.res_7_a, 7, .a)] : List (Instr × Nat × Reg8))

/-- BIT b,(HL) with b (R361) -/
def bitHlForms : List (Instr × Nat) :=
  [(.bit_0_atHL, 0), (.bit_1_atHL, 1), (.bit_2_atHL, 2), (.bit_3_atHL, 3), (.bit_4_atHL, 4), (.bit_5_atHL, 5),
   (.bit_6_atHL, 6), (.bit_7_atHL, 7)]

/-- SET b,(HL) with b (R363) -/
def setHlForms : List (Instr × Nat) :=
  [(.set_0_atHL, 0), (.set_1_atHL, 1), (.set_2_atHL, 2), (.set_3_atHL, 3), (.set_4_atHL, 4), (.set_5_atHL, 5),
   (.set_6_atHL, 6), (.set_7_atHL, 7)]

/-- RES b,(HL) with b (R365) -/
def resHlForms : List (Instr × Nat) :=
  [(.res_0_atHL, 0), (.res_1_atHL, 1), (.res_2_atHL, 2), (.res_3_atHL, 3), (.res_4_atHL, 4), (.res_5_atHL, 5),
   (.res_6_atHL, 6), (.res_7_atHL, 7)]

/-- SRL r with r (R368) -/
def srlRegForms : List (Instr × Reg8) :=
  [(.srl_b, .b), (.srl_c, .c), (.srl_d, .d), (.srl_e, .e), (.srl_h, .h), (.srl_l, .l), (.srl_a, .a)]

/-- LD r,(XY+d) with the index register and r (R414) -/
def ldIdxForms : List ((Byte → Instr) × IdxReg × Reg8) :=
  ([(.ld_b_atIX, .ix, .b), (.ld_c_atIX, .ix, .c), (.ld_d_atIX, .ix, .d), (.ld_e_atIX, .ix, .e),
   (.ld_h_atIX, .ix, .h), (.ld_l_atIX, .ix, .l), (.ld_a_atIX, .ix, .a)] : List ((Byte → Instr) × IdxReg × Reg8)) ++
  ([(.ld_b_atIY, .iy, .b), (.ld_c_atIY, .iy, .c), (.ld_d_atIY, .iy, .d), (.ld_e_atIY, .iy, .e),
   (.ld_h_atIY, .iy, .h), (.ld_l_atIY, .iy, .l), (.ld_a_atIY, .iy, .a)] : List ((Byte → Instr) × IdxReg × Reg8))

end Sys2Proof.Machine

open Sys2Proof Sys2Proof.Machine

/-! ### Decode and encode -/

/-- A word of each page, written out from R140 to R143, decodes to its instruction: 0x41, 0x3A, 0xCB 0x5E, 0xED 0x44,
0xDD 0x7E 0x05. -/
def Obligations.SpecWordsDecode : Prop :=
  decodeBytes Config.vectors [0x41] = .instr .ld_b_c 1 ∧
  decodeBytes Config.vectors [0x3A, 0x25, 0x40] = .instr (.ld_a_atNN 0x4025) 3 ∧
  decodeBytes Config.vectors [0xCB, 0x5E] = .instr .bit_3_atHL 2 ∧
  decodeBytes Config.vectors [0xED, 0x44] = .instr .neg 2 ∧
  decodeBytes Config.vectors [0xDD, 0x7E, 0x05] = .instr (.ld_a_atIX 0x05) 3

/-- Every admitted instruction, with every operand, is decoded from its encoding, whatever bytes follow (R153). -/
def Obligations.DecodeOfEncodeIsTheInstruction : Prop :=
  ∀ (cfg : Config) (i : Instr) (rest : List Byte),
    i.wf cfg = true → decodeBytes cfg (encode i ++ rest) = .instr i (encode i).length

/-- What decode answers is an admitted instruction, and the bytes it was read from are that instruction's encoding:
no byte sequence has two meanings, and nothing outside the rows is decoded (R3, R151, R153). -/
def Obligations.DecodedBytesAreTheEncoding : Prop :=
  ∀ (cfg : Config) (b0 b1 b2 b3 : Byte) (i : Instr) (n : Nat),
    decode cfg b0 b1 b2 b3 = .instr i n →
      i.wf cfg = true ∧ n = (encode i).length ∧ encode i = [b0, b1, b2, b3].take n

/-- The bytes a decode error reports (R150): the prefix and the second byte after an admitted prefix, else the first
byte (the spec's decision D22). -/
def Obligations.DecodeErrorReportsItsBytes : Prop :=
  ∀ (cfg : Config) (b0 b1 b2 b3 : Byte) (bytes : List Byte),
    decode cfg b0 b1 b2 b3 = .undecodable bytes →
      bytes =
        if b0 = 0xCB ∨ b0 = 0xED ∨ (b0 = 0xDD ∧ IdxReg.ix ∈ cfg.idxPrefixes) ∨
            (b0 = 0xFD ∧ IdxReg.iy ∈ cfg.idxPrefixes)
        then [b0, b1] else [b0]

/-- The length of an admitted instruction follows from its first two bytes by the table of R154, which the spec derives from
its opcode maps. -/
def Obligations.DecodedLengthIsTheTables : Prop :=
  ∀ (cfg : Config) (b0 b1 b2 b3 : Byte) (i : Instr) (n : Nat),
    decode cfg b0 b1 b2 b3 = .instr i n → n = lengthOf b0 b1

/-- Which rows the configuration selects (R151): a row it does not select decodes to a decode error, which reports the
prefix and the second byte where the prefix is admitted, else the first byte (R150); every other row decodes (the spec's
decisions D9, D15 to D17, D22). -/
def Obligations.ConfigurationSelectsRows : Prop :=
  ∀ (cfg : Config) (i : Instr),
    (rowSelected cfg i → decodeBytes cfg (encode i) = .instr i (encode i).length) ∧
    (¬rowSelected cfg i → decodeBytes cfg (encode i) = .undecodable ((encode i).take
      (if ((encode i).head? = some 0xDD ∧ IdxReg.ix ∈ cfg.idxPrefixes) ∨
        ((encode i).head? = some 0xFD ∧ IdxReg.iy ∈ cfg.idxPrefixes) then 2 else 1)))

/-! ### The step -/

/-- A step at whose PC an admitted instruction stands, and to which no earlier check of R502 applies, runs exactly that
instruction: on the state with the counter one higher and PC past the instruction's bytes (R501, R121, R122). -/
def Obligations.StepRunsTheDecodedInstruction : Prop :=
  ∀ (s : State) (i : Instr) (n : Nat), s.dispatches →
    decode s.cfg (s.readByte s.pc) (s.readByte (s.pc + 1)) (s.readByte (s.pc + 2)) (s.readByte (s.pc + 3)) = .instr i n →
      step s = exec i { s with counter := s.counter + 1, pc := s.pc + BitVec.ofNat 16 n }

/-- A decode error ends the run at once: the status carries the address and the bytes, the counter has risen, and
nothing else changes, PC included (R510, R150; the spec's decision D22). -/
def Obligations.DecodeErrorChangesNothingElse : Prop :=
  ∀ (s : State) (bytes : List Byte), s.dispatches →
    decode s.cfg (s.readByte s.pc) (s.readByte (s.pc + 1)) (s.readByte (s.pc + 2)) (s.readByte (s.pc + 3)) =
        .undecodable bytes →
      step s = .next { s with counter := s.counter + 1, status := .decodeError s.pc bytes }

/-- The two checks that end a run before anything is fetched. The step whose increment makes the counter pass cycleLimit
stops with the counter's value before any check or fetch (R512). A step that begins with PC = 0x0000 and has not hit the
cycle limit stops with `returned` (R513). Nothing but the status and the counter changes. -/
def Obligations.ChecksThatEndTheRun : Prop :=
  ∀ s : State, s.canStep →
    (s.cfg.cycleLimit < s.counter + 1 →
      step s = .next { s with counter := s.counter + 1, status := .cycleLimitExceeded (s.counter + 1) }) ∧
    (s.counter < s.cfg.cycleLimit → s.pc = 0x0000 →
      step s = .next { s with counter := s.counter + 1, status := .returned })

/-- The print-character service (R450 to R453): A is appended to the line, or closes it if it is the line terminator
(an empty line is kept); PC becomes the word on top of the stack and SP rises by 2; nothing else changes but the
counter (the spec's decisions D28, D38, D46). -/
def Obligations.PrintServiceAtItsAddress : Prop :=
  ∀ s : State, s.canStep → s.counter < s.cfg.cycleLimit → s.pc = s.cfg.printAddr →
    step s = .next
      { s with
        counter := s.counter + 1
        lines := if s.a = s.cfg.newlineCode then s.lines ++ [s.partialLine] else s.lines
        partialLine := if s.a = s.cfg.newlineCode then [] else s.partialLine ++ [s.a]
        pc := wordAt s s.sp
        sp := s.sp + 2 }

/-- The clear-screen service (R455, R456): the output is discarded; each cell of clsInit that no later entry overwrites
holds its entry's byte, and every other byte of memory is unchanged; PC becomes the word then on top of the stack and
SP rises by 2; every register else, F, the queue, the policy, the status and the configuration are kept
(the spec's decisions D27, D28). -/
def Obligations.ClearScreenAtItsAddress : Prop :=
  ∀ s : State, s.canStep → s.counter < s.cfg.cycleLimit → s.pc = s.cfg.clsAddr →
    ∃ t, step s = .next t ∧ t.lines = [] ∧ t.partialLine = [] ∧
      (∀ before a v after, s.cfg.clsInit = before ++ (a, v) :: after → (∀ c ∈ after, c.1 ≠ a) → t.readByte a = v) ∧
      (∀ a, (∀ c ∈ s.cfg.clsInit, c.1 ≠ a) → t.readByte a = s.readByte a) ∧
      t.pc = wordAt t s.sp ∧ t.sp = s.sp + 2 ∧ RegsSame [] s t ∧ WideSame [.sp] s t ∧ FlagsSame s t ∧
      t.counter = s.counter + 1 ∧ t.queue = s.queue ∧ t.haltPolicy = s.haltPolicy ∧ t.status = s.status ∧
      t.cfg = s.cfg ∧ t.pcSet = s.pcSet

/-- What stops the model without a next state: a configuration that breaks the constraints, a run that is over, a PC
without a value; and nothing else (the model's choice: log entries 4, 8, 9). -/
def Obligations.StepStopsOnlyInTheseStates : Prop :=
  ∀ s : State,
    (s.cfg.ok = false → step s = .refused .configRejected) ∧
    (s.cfg.ok = true → s.status ≠ .running → step s = .fault .runOver) ∧
    (s.cfg.ok = true → s.status = .running → s.pcSet = false → step s = .refused .pcUnset) ∧
    (s.canStep → ∃ t, step s = .next t)

/-- No instruction traps: every instruction, in every state, answers a next state (R515), and it keeps the status, but
that a HALT may end the run with halted-no-keys (R442, R514). That no other instruction raises an outcome is R517, which
the spec derives from R501, R502, R510 and R514. -/
def Obligations.NoInstructionTraps : Prop :=
  ∀ (i : Instr) (s : State), ∃ t, exec i s = .next t ∧ (t.status = s.status ∨ (i = .halt ∧ t.status = .haltedNoKeys))

/-- Each step adds exactly 1 to the counter, whatever it does, and writes neither the configuration nor the run's
haltPolicy (R501, R505, R46). -/
def Obligations.EveryStepCountsOne : Prop :=
  ∀ s t : State, step s = .next t →
    t.counter = s.counter + 1 ∧ t.cfg = s.cfg ∧ t.haltPolicy = s.haltPolicy ∧ t.pcSet = s.pcSet

/-- The invariant holds in every fresh scenario, the reset state among them. Its clause on memory, the canonical form of
the list of cells, is no rule of the spec: it is the model's choice of a representation (log entry 12, DESIGN CHOICE). -/
def Obligations.InvariantAtReset : Prop :=
  (∀ cfg : Config, (State.create cfg).Inv) ∧ State.reset.Inv

/-- Every step keeps the invariant: memory in its canonical form, key codes as wide as the cell, no line terminator in
the output, the counter one past the limit at most. The clause on memory is no rule of the spec: it is the model's choice
of a representation (log entry 12, DESIGN CHOICE). -/
def Obligations.EveryStepKeepsInvariant : Prop :=
  ∀ s t : State, s.Inv → step s = .next t → t.Inv

/-- Every host operation keeps the invariant, whole runs included. Its clause on memory, the canonical form of the list of
cells, is no rule of the spec: it is the model's choice of a representation (log entry 12, DESIGN CHOICE). -/
def Obligations.HostOperationsKeepInvariant : Prop :=
  ∀ (op : HostOp) (s t : State), s.Inv → hostApply op s = .next t → t.Inv

/-- What a step that ends the run leaves to be seen (R537; the spec's decision D43). PC is where the step began: 0x0000
for `returned`, the HALT's address for halted-no-keys, the failing address for a decode error, the next instruction's
address for cycle-limit-exceeded. Payload and counter agree with the outcome. Every register, flag and byte of memory,
the output, the queue, the policy and the configuration are what they were before the step. -/
def Obligations.RunsEndAsTheirOutcomeSays : Prop :=
  ∀ s t : State, s.Inv → s.canStep → step s = .next t →
    s.EndsWell t ∧
      (t.status ≠ .running → t = { s with counter := s.counter + 1, status := t.status })

/-- Every run under an accepted configuration ends, by its cycleLimit + 1-th step at the latest, with a terminal outcome
(R504, where the spec derives it from R501 and R503). -/
def Obligations.EveryRunEnds : Prop :=
  ∀ (s : State) (start : Nat) (haltPolicy : Bool), s.cfg.ok = true →
    ∃ t, s.run start haltPolicy = .next t ∧ t.status ≠ .running ∧ t.counter ≤ s.cfg.cycleLimit + 1 ∧
      t.cfg = s.cfg ∧ t.haltPolicy = haltPolicy

/-- Only the entry points touch the captured output (R43). -/
def Obligations.OutputOnlyByEntryPoints : Prop :=
  ∀ s t : State, step s = .next t → s.pc ≠ s.cfg.printAddr → s.pc ≠ s.cfg.clsAddr → t.output = s.output

/-- Only HALT takes from the input queue, and it takes one entry at most, the head (R44, R533). -/
def Obligations.OnlyHaltConsumesKeys : Prop :=
  ∀ (i : Instr) (s t : State), exec i s = .next t →
    (i ≠ .halt → t.queue = s.queue) ∧ (t.queue = s.queue ∨ t.queue = s.queue.tail)

/-- SP is written by no instruction but those R40 lists. -/
def Obligations.OnlyStackInstructionsWriteSp : Prop :=
  ∀ (i : Instr) (s t : State), exec i s = .next t → mayWriteSp i = false → t.sp = s.sp

/-- Without the prefix 0xFD no step writes IY (R42; the spec's decision D15). -/
def Obligations.IyKeptWithoutItsPrefix : Prop :=
  ∀ s t : State, IdxReg.iy ∉ s.cfg.idxPrefixes → step s = .next t → t.iy = s.iy

/-- No instruction reads the output buffer or the counter: two states that differ only there take the same step, and
keep their difference (R43, R505). -/
def Obligations.OutputAndCounterAreNotRead : Prop :=
  ∀ (i : Instr) (s t : State) (lines : List (List Byte)) (part : List Byte) (n : Nat), exec i s = .next t →
    exec i { s with lines := lines, partialLine := part, counter := n } =
      .next { t with lines := lines, partialLine := part, counter := n }

/-! ### Reset and the host interface -/

/-- The baseline of a scenario (R47, R550): the 8-bit registers, IX, IY and every byte of memory 0, SP at initSP, PC
without a value, the output and the queue empty, the counter 0, the status running (the spec's decision D33). -/
def Obligations.ScenarioBaseline : Prop :=
  ∀ cfg : Config, let s := State.create cfg
    (∀ r, s.reg r = 0x00) ∧ s.f = 0x00 ∧ s.ix = 0x0000 ∧ s.iy = 0x0000 ∧ s.sp = cfg.initSP ∧ s.readReg .pc = none ∧
      (∀ a, s.readByte a = 0x00) ∧ s.output = ([], []) ∧ s.queue = [] ∧ s.counter = 0 ∧ s.status = .running ∧
      s.cfg = cfg

/-- `load(bytes, base)` (R87, R531): the byte at base + k is bytes[k] where no later byte of the block falls on the same
address; every byte outside the block, and everything that is not memory, is unchanged. (That a later byte wins is the
spec's own derivation.) -/
def Obligations.LoadWritesTheBlock : Prop :=
  ∀ (s : State) (bytes : List Byte) (base : Nat),
    (∀ k v, bytes[k]? = some v → (∀ j, k < j → j < bytes.length → (base + j) % 65536 ≠ (base + k) % 65536) →
      (s.load bytes base).peekByte (base + k) = v) ∧
    (∀ a, (∀ k, k < bytes.length → (base + k) % 65536 ≠ a % 65536) → (s.load bytes base).peekByte a = s.peekByte a) ∧
    s.load bytes base = { s with mem := (s.load bytes base).mem }

/-- Host access to registers (R530): a write is masked to the register's width and is what a read then gives; a pair is
its halves; a write of one flag changes that bit of F alone; PC read before any run or write is refused (decision D44). Queue
append (R533): one entry at the tail, reduced modulo 256^keyWidth; nothing else changes (decision D42). -/
def Obligations.HostAccess : Prop :=
  ∀ (s : State) (v : Nat),
    (∀ r, (s.writeReg (.r8 r) v).readReg (.r8 r) = some (v % 256)) ∧
    (s.writeReg .f v).readReg .f = some (v % 256) ∧
    (∀ r, (s.writeReg (.r16 r) v).readReg (.r16 r) = some (v % 65536)) ∧
    (s.writeReg .pc v).readReg .pc = some (v % 65536) ∧
    s.readReg (.r16 .bc) = some (s.b.toNat * 256 + s.c.toNat) ∧
    s.readReg (.r16 .de) = some (s.d.toNat * 256 + s.e.toNat) ∧
    s.readReg (.r16 .hl) = some (s.h.toNat * 256 + s.l.toNat) ∧
    s.readReg (.r16 .af) = some (s.a.toNat * 256 + s.f.toNat) ∧
    (∀ fl b, (s.writeFlag fl b).flag fl = b ∧
      (∀ k, k < 8 → k ≠ (match fl with | .s => 7 | .z => 6 | .h => 4 | .pv => 2 | .n => 1 | .c => 0) →
        (s.writeFlag fl b).f.getLsbD k = s.f.getLsbD k) ∧
      s.writeFlag fl b = { s with f := (s.writeFlag fl b).f }) ∧
    (s.pcSet = false → s.readReg .pc = none) ∧
    ∃ k : Word, k.toNat = v % (match s.cfg.keyWidth with | .one => 256 | .two => 65536) ∧
      s.appendKey v = { s with queue := s.queue ++ [k] }

/-! ### Memory and the stack -/

/-- Two memories in canonical form that read alike at each of the 65536 addresses are the same data. The canonical form is
no rule of the spec: it is the model's choice of a representation (log entry 12, DESIGN CHOICE), and this says that the
choice adds nothing that could be observed. -/
def Obligations.CanonicalMemoryIsUnique : Prop :=
  ∀ m n : Memory, m.wf → n.wf → (∀ a, a < 65536 → m.read a = n.read a) → m = n

/-- Words in memory (R84, R85, R81): a written word puts its low byte at the address and its high byte at the next,
wrapping, and changes no other byte; reading it back gives the word; a read word is the two bytes, low byte first.
`push16` (R95): SP falls by 2 and the word stands at the new SP; what was pushed is on top, and dropping it restores SP.
`pop16` (R96): its word is the one at SP, and SP rises by 2. The sentinel push (R553) pushes 0x0000. -/
def Obligations.WordsAndTheStack : Prop :=
  ∀ (s : State) (a v : Word),
    (WordAt (s.writeWord a v) a v ∧ MemSameBut [a, a + 1] s (s.writeWord a v) ∧ (s.writeWord a v).readWord a = v ∧
      s.readWord a = wordAt s a) ∧
    ((s.push16 v).sp = s.sp - 2 ∧ WordAt (s.push16 v) (s.sp - 2) v ∧ MemSameBut [s.sp - 2, s.sp - 1] s (s.push16 v) ∧
      (s.push16 v).top16 = v ∧ (s.push16 v).dropTop.sp = s.sp) ∧
    (s.top16 = wordAt s s.sp ∧ s.dropTop = { s with sp := s.sp + 2 }) ∧
    (s.pushSentinel.sp = s.sp - 2 ∧ WordAt s.pushSentinel (s.sp - 2) 0x0000)

/-! ### The flag policies -/

/-- The additive policy (R261, R267): the byte of the sum; S, Z of the result, H the carry out of the low nibbles, P/V
exactly when the signed sum is outside −128..127, N = 0, C when the sum passes 255, bits 5 and 3 zero. (The spec derives N and the
reading of its P/V formula as signed overflow.) -/
def Obligations.AdditiveFlagsAreExact : Prop :=
  ∀ (a b : Byte) (cin : Bool), let u := a.toNat + b.toNat + cin.toNat
    (add8 a b cin).1.toNat = u % 256 ∧
      FlagBits (add8 a b cin).2 (decide (128 ≤ u % 256)) (decide (u % 256 = 0)) false
        (decide (15 < a.toNat % 16 + b.toNat % 16 + cin.toNat)) false
        (decide (a.toInt + b.toInt + cin.toNat < -128 ∨ 127 < a.toInt + b.toInt + cin.toNat)) false (decide (255 < u))

/-- The subtractive policy (R262, R267): the byte of the difference; S, Z of the result, H the borrow into the low
nibble, P/V exactly when the signed difference is outside −128..127, N = 1, C when the difference is negative, bits 5
and 3 zero. (The spec derives the reading of its P/V formula as signed overflow.) -/
def Obligations.SubtractiveFlagsAreExact : Prop :=
  ∀ (a b : Byte) (cin : Bool), let u : Int := a.toNat - b.toNat - cin.toNat
    ((sub8 a b cin).1.toNat : Int) = u % 256 ∧
      FlagBits (sub8 a b cin).2 (decide (128 ≤ u % 256)) (decide (u % 256 = 0)) false
        (decide (a.toNat % 16 < b.toNat % 16 + cin.toNat)) false
        (decide (a.toInt - b.toInt - cin.toNat < -128 ∨ 127 < a.toInt - b.toInt - cin.toNat)) true (decide (u < 0))

/-! ### Loads, stack, exchange -/

/-- NOP (R200) changes nothing: the state after the fetch is the state after the instruction. -/
def Obligations.NopChangesNothing : Prop :=
  encode .nop = [0x00] ∧ ∀ s : State, exec .nop s = .next s

/-- LD r,r', LD r,(HL), LD r,n (R201, R202, R204): r becomes the old r', the byte at the old HL (r = H and r = L
included), or n; nothing else changes. -/
def Obligations.LdRegister : Prop :=
  (∀ i r q, (i, r, q) ∈ ldRegForms → encode i = [BitVec.ofNat 8 (0x40 + 8 * selectorOf r + selectorOf q)] ∧
    ∀ s : State, ∃ t, exec i s = .next t ∧ t.reg r = s.reg q ∧ OnlyRegs [r] s t) ∧
  (∀ i r, (i, r) ∈ ldFromHlForms → encode i = [BitVec.ofNat 8 (0x46 + 8 * selectorOf r)] ∧
    ∀ s : State, ∃ t, exec i s = .next t ∧ t.reg r = s.readByte (wordOf s.h s.l) ∧ OnlyRegs [r] s t) ∧
  (∀ i r, (i, r) ∈ ldImmForms → ∀ n, encode (i n) = [BitVec.ofNat 8 (0x06 + 8 * selectorOf r), n] ∧
    ∀ s : State, ∃ t, exec (i n) s = .next t ∧ t.reg r = n ∧ OnlyRegs [r] s t)

/-- LD (HL),r and LD (HL),n (R203, R205): the byte at HL becomes r, or n. LD (nn),HL, LD (nn),BC, LD (nn),DE, LD (nn),SP
(R219, R393, R394, R396): the word at nn becomes the register, low byte at nn. Nothing else changes. -/
def Obligations.StoresWriteTheirBytes : Prop :=
  (∀ i r, (i, r) ∈ ldToHlForms → encode i = [BitVec.ofNat 8 (0x70 + selectorOf r)] ∧
    ∀ s : State, ∃ t, exec i s = .next t ∧ t.readByte (wordOf s.h s.l) = s.reg r ∧ OnlyMem [wordOf s.h s.l] s t) ∧
  (∀ n, encode (.ld_atHL_n n) = [0x36, n] ∧
    ∀ s : State, ∃ t, exec (.ld_atHL_n n) s = .next t ∧ t.readByte (wordOf s.h s.l) = n ∧
      OnlyMem [wordOf s.h s.l] s t) ∧
  (∀ i r op, (i, r, op) ∈ stWideDirectForms → ∀ nn : Word,
    encode (i nn) = op ++ [BitVec.ofNat 8 nn.toNat, BitVec.ofNat 8 (nn.toNat / 256)] ∧
    ∀ s : State, ∃ t, exec (i nn) s = .next t ∧ WordAt t nn (s.reg16 r) ∧ OnlyMem [nn, nn + 1] s t)

/-- LD A,(BC), LD A,(DE), LD A,(nn) (R212, R213, R216): A becomes the byte there. LD (BC),A, LD (DE),A, LD (nn),A
(R214, R215, R217): the byte there becomes A. Nothing else changes. -/
def Obligations.AccumulatorIndirect : Prop :=
  encode .ld_a_atBC = [0x0A] ∧ encode .ld_a_atDE = [0x1A] ∧ encode .ld_atBC_a = [0x02] ∧ encode .ld_atDE_a = [0x12] ∧
  ∀ (s : State) (nn : Word),
    encode (.ld_a_atNN nn) = [0x3A, BitVec.ofNat 8 nn.toNat, BitVec.ofNat 8 (nn.toNat / 256)] ∧
    encode (.ld_atNN_a nn) = [0x32, BitVec.ofNat 8 nn.toNat, BitVec.ofNat 8 (nn.toNat / 256)] ∧
    (∃ t, exec .ld_a_atBC s = .next t ∧ t.a = s.readByte (wordOf s.b s.c) ∧ OnlyRegs [.a] s t) ∧
    (∃ t, exec .ld_a_atDE s = .next t ∧ t.a = s.readByte (wordOf s.d s.e) ∧ OnlyRegs [.a] s t) ∧
    (∃ t, exec (.ld_a_atNN nn) s = .next t ∧ t.a = s.readByte nn ∧ OnlyRegs [.a] s t) ∧
    (∃ t, exec .ld_atBC_a s = .next t ∧ t.readByte (wordOf s.b s.c) = s.a ∧ OnlyMem [wordOf s.b s.c] s t) ∧
    (∃ t, exec .ld_atDE_a s = .next t ∧ t.readByte (wordOf s.d s.e) = s.a ∧ OnlyMem [wordOf s.d s.e] s t) ∧
    (∃ t, exec (.ld_atNN_a nn) s = .next t ∧ t.readByte nn = s.a ∧ OnlyMem [nn] s t)

/-- LD rr,nn, LD SP,nn, LD XY,nn (R210, R211, R411): the register becomes nn. LD HL,(nn), LD BC,(nn), LD DE,(nn),
LD SP,(nn) (R218, R391, R392, R395): the register becomes the word at nn. Nothing else changes. -/
def Obligations.LdWideRegister : Prop :=
  let loads (i : Instr) (r : Reg16) (v : State → Word) : Prop :=
    ∀ s : State, ∃ t, exec i s = .next t ∧ t.reg16 r = v s ∧ RegsSame (halves r) s t ∧ WideSame [r] s t ∧
      FlagsSame s t ∧ t.pc = s.pc ∧ MemSameBut [] s t ∧ SideSame s t
  (∀ i r op, (i, r, op) ∈ ldWideImmForms → ∀ nn : Word,
    encode (i nn) = op ++ [BitVec.ofNat 8 nn.toNat, BitVec.ofNat 8 (nn.toNat / 256)] ∧ loads (i nn) r (fun _ => nn)) ∧
  (∀ i r op, (i, r, op) ∈ ldWideDirectForms → ∀ nn : Word,
    encode (i nn) = op ++ [BitVec.ofNat 8 nn.toNat, BitVec.ofNat 8 (nn.toNat / 256)] ∧
      loads (i nn) r (fun s => wordAt s nn))

/-- PUSH qq, PUSH AF, PUSH XY (R230, R232, R412): SP falls by 2 and the register stands at the new SP, all eight bits of F
with AF; nothing else changes. -/
def Obligations.PushStoresTheRegister : Prop :=
  ∀ i r op, (i, r, op) ∈ pushForms → encode i = op ∧
    ∀ s : State, ∃ t, exec i s = .next t ∧ t.sp = s.sp - 2 ∧ WordAt t (s.sp - 2) (s.reg16 r) ∧
      OnlyPcSpAndStack s t ∧ t.pc = s.pc

/-- POP qq, POP AF, POP XY (R234, R236, R413): the register becomes the word at SP, all eight bits of F with AF, and SP
rises by 2; memory and everything else are unchanged. (Bits 5 and 3 of F by the spec's decision D34.) -/
def Obligations.PopLoadsTheRegister : Prop :=
  ∀ i r op, (i, r, op) ∈ popForms → encode i = op ∧
    ∀ s : State, ∃ t, exec i s = .next t ∧ t.reg16 r = wordAt s s.sp ∧ t.sp = s.sp + 2 ∧ RegsSame (halves r) s t ∧
      WideSame [r, .sp] s t ∧ (r ≠ .af → t.f = s.f) ∧ t.draws = s.draws ∧ t.pc = s.pc ∧ MemSameBut [] s t ∧
      SideSame s t

/-- EX DE,HL (R240): the two pairs change places; nothing else changes; twice restores the state. -/
def Obligations.ExchangeSwapsDeAndHl : Prop :=
  encode .ex_de_hl = [0xEB] ∧ ∀ s : State, ∃ t, exec .ex_de_hl s = .next t ∧
    t.d = s.h ∧ t.e = s.l ∧ t.h = s.d ∧ t.l = s.e ∧ OnlyRegs [.d, .e, .h, .l] s t ∧ exec .ex_de_hl t = .next s

/-! ### 8-bit arithmetic and logic -/

/-- ADD and ADC with a register, (HL) or an immediate (R270 to R275): (A, F) becomes the additive policy of A, the
operand, and the old Carry for ADC; nothing else changes. -/
def Obligations.AddWritesAccumulatorAndFlags : Prop :=
  let writes (i : Instr) (op : AluOp) (v : State → Byte) : Prop :=
    ∀ s : State, ∃ t, exec i s = .next t ∧
      (t.a, t.f) = add8 s.a (v s) (decide (op = .adc) && s.f.getLsbD 0) ∧ OnlyRegsAndF [.a] s t
  (∀ i op r, (i, op, r) ∈ addRegForms → encode i = [BitVec.ofNat 8 (0x80 + 8 * aluField op + selectorOf r)] ∧
    writes i op (fun s => s.reg r)) ∧
  (∀ i op, (i, op) ∈ addHlForms → encode i = [BitVec.ofNat 8 (0x86 + 8 * aluField op)] ∧
    writes i op (fun s => s.readByte (wordOf s.h s.l))) ∧
  (∀ i op, (i, op) ∈ addImmForms → ∀ n, encode (i n) = [BitVec.ofNat 8 (0xC6 + 8 * aluField op), n] ∧
    writes (i n) op (fun _ => n))

/-- SUB, SBC and CP with a register, (HL) or an immediate (R276 to R281, R291 to R293): F becomes the subtractive
policy's flags of A, the operand, and the old Carry for SBC; A its result, but for CP, which keeps A; nothing else
changes. -/
def Obligations.SubtractWritesAccumulatorAndFlags : Prop :=
  let writes (i : Instr) (op : AluOp) (v : State → Byte) : Prop :=
    ∀ s : State, ∃ t, exec i s = .next t ∧
      t.f = (sub8 s.a (v s) (decide (op = .sbc) && s.f.getLsbD 0)).2 ∧
      t.a = (if op = .cp then s.a else (sub8 s.a (v s) (decide (op = .sbc) && s.f.getLsbD 0)).1) ∧
      OnlyRegsAndF [.a] s t
  (∀ i op r, (i, op, r) ∈ subRegForms → encode i = [BitVec.ofNat 8 (0x80 + 8 * aluField op + selectorOf r)] ∧
    writes i op (fun s => s.reg r)) ∧
  (∀ i op, (i, op) ∈ subHlForms → encode i = [BitVec.ofNat 8 (0x86 + 8 * aluField op)] ∧
    writes i op (fun s => s.readByte (wordOf s.h s.l))) ∧
  (∀ i op, (i, op) ∈ subImmForms → ∀ n, encode (i n) = [BitVec.ofNat 8 (0xC6 + 8 * aluField op), n] ∧
    writes (i n) op (fun _ => n))

/-- AND, XOR and OR with a register, (HL) or an immediate (R282 to R290): A becomes the bitwise result; F is the logical
policy's (R263): S, Z of the result, P/V for an even number of set bits, H for AND, N = C = 0, bits 5 and 3 zero; nothing
else changes. -/
def Obligations.LogicWritesAccumulatorAndFlags : Prop :=
  let writes (i : Instr) (op : AluOp) (v : State → Byte) : Prop :=
    ∀ s : State, ∃ t, exec i s = .next t ∧
      t.a = (if op = .and then s.a &&& v s else if op = .xor then s.a ^^^ v s else s.a ||| v s) ∧
      FlagBits t.f (decide (128 ≤ t.a.toNat)) (decide (t.a = 0)) false (decide (op = .and)) false
        (decide (((List.range 8).filter (fun k => t.a.getLsbD k)).length % 2 = 0)) false false ∧
      OnlyRegsAndF [.a] s t
  (∀ i op r, (i, op, r) ∈ logicRegForms → encode i = [BitVec.ofNat 8 (0x80 + 8 * aluField op + selectorOf r)] ∧
    writes i op (fun s => s.reg r)) ∧
  (∀ i op, (i, op) ∈ logicHlForms → encode i = [BitVec.ofNat 8 (0x86 + 8 * aluField op)] ∧
    writes i op (fun s => s.readByte (wordOf s.h s.l))) ∧
  (∀ i op, (i, op) ∈ logicImmForms → ∀ n, encode (i n) = [BitVec.ofNat 8 (0xC6 + 8 * aluField op), n] ∧
    writes (i n) op (fun _ => n))

/-- NEG (R390): (A, F) becomes the subtractive policy of 0 and A: P/V exactly for A = 0x80, C exactly for A ≠ 0, H exactly
for a non-zero low nibble; nothing else changes. (The spec derives these flags from R262.) -/
def Obligations.NegSubtractsFromZero : Prop :=
  encode .neg = [0xED, 0x44] ∧ ∀ s : State, ∃ t, exec .neg s = .next t ∧ t.a.toNat = (256 - s.a.toNat) % 256 ∧
    FlagBits t.f (decide (128 ≤ t.a.toNat)) (decide (s.a = 0x00)) false (decide (s.a.toNat % 16 ≠ 0)) false
      (decide (s.a = 0x80)) true (decide (s.a ≠ 0x00)) ∧ OnlyRegsAndF [.a] s t

/-! ### 16-bit add, increment and decrement -/

/-- ADD HL,rr and ADD XY,pp (R295, R423) by the 16-bit additive rule (R265): the register becomes the word of the sum, C
says that the sum passes 65535, H = N = 0, S, Z and P/V are kept, bits 5 and 3 are unsettled (R48), kept under decided; an
indexed add neither reads nor writes HL; nothing else changes. (H and N of the
indexed add, and bits 5 and 3, by the spec's decisions D13, D45; the free value is log entry 6.) -/
def Obligations.WideAddWritesSumAndFlags : Prop :=
  ∀ i dst src op, (i, dst, src, op) ∈ addWideForms → encode i = op ∧
    ∀ s : State, ∃ t f, exec i s = .next t ∧
      (t.reg16 dst).toNat = ((s.reg16 dst).toNat + (s.reg16 src).toNat) % 65536 ∧
      FlagBits f (s.f.getLsbD 7) (s.f.getLsbD 6) (s.f.getLsbD 5) false (s.f.getLsbD 3) (s.f.getLsbD 2) false
        (decide (65535 < (s.reg16 dst).toNat + (s.reg16 src).toNat)) ∧
      Unsettled 0x28 f s t ∧ RegsSame (halves dst) s t ∧ WideSame [dst] s t ∧ t.pc = s.pc ∧ MemSameBut [] s t ∧
      SideSame s t

/-- INC r and INC (HL) (R300, R301): the operand rises by 1 modulo 256; S and Z of the result; C, bits 5 and 3 kept; H,
P/V and N unsettled (R48), kept under decided; nothing else changes. (The spec's decision
D12; the free value is log entry 6.) -/
def Obligations.IncrementByte : Prop :=
  (∀ i r, (i, r) ∈ incRegForms → encode i = [BitVec.ofNat 8 (0x04 + 8 * selectorOf r)] ∧
    ∀ s : State, ∃ t f, exec i s = .next t ∧ (t.reg r).toNat = ((s.reg r).toNat + 1) % 256 ∧
      FlagBits f (decide (128 ≤ (t.reg r).toNat)) (decide (t.reg r = 0)) (s.f.getLsbD 5) (s.f.getLsbD 4) (s.f.getLsbD 3)
        (s.f.getLsbD 2) (s.f.getLsbD 1) (s.f.getLsbD 0) ∧
      Unsettled 0x16 f s t ∧ RegsSame [r] s t ∧ WideSame [] s t ∧ t.pc = s.pc ∧ MemSameBut [] s t ∧ SideSame s t) ∧
  (encode .inc_atHL = [0x34] ∧
    ∀ s : State, let a := wordOf s.h s.l
      ∃ t f, exec .inc_atHL s = .next t ∧ (t.readByte a).toNat = ((s.readByte a).toNat + 1) % 256 ∧
        FlagBits f (decide (128 ≤ (t.readByte a).toNat)) (decide (t.readByte a = 0)) (s.f.getLsbD 5) (s.f.getLsbD 4)
          (s.f.getLsbD 3) (s.f.getLsbD 2) (s.f.getLsbD 1) (s.f.getLsbD 0) ∧
        Unsettled 0x16 f s t ∧ RegsSame [] s t ∧ WideSame [] s t ∧ t.pc = s.pc ∧ MemSameBut [a] s t ∧ SideSame s t)

/-- DEC r and DEC (HL) (R302, R303): the operand falls by 1 modulo 256; S and Z of the result, N = 1; C, bits 5 and 3 kept;
H and P/V unsettled (R48), kept under decided; nothing else changes. (The spec's decision D12; the free value is
log entry 6.) -/
def Obligations.DecrementByte : Prop :=
  (∀ i r, (i, r) ∈ decRegForms → encode i = [BitVec.ofNat 8 (0x05 + 8 * selectorOf r)] ∧
    ∀ s : State, ∃ t f, exec i s = .next t ∧ (t.reg r).toNat = ((s.reg r).toNat + 255) % 256 ∧
      FlagBits f (decide (128 ≤ (t.reg r).toNat)) (decide (t.reg r = 0)) (s.f.getLsbD 5) (s.f.getLsbD 4) (s.f.getLsbD 3)
        (s.f.getLsbD 2) true (s.f.getLsbD 0) ∧
      Unsettled 0x14 f s t ∧ RegsSame [r] s t ∧ WideSame [] s t ∧ t.pc = s.pc ∧ MemSameBut [] s t ∧ SideSame s t) ∧
  (encode .dec_atHL = [0x35] ∧
    ∀ s : State, let a := wordOf s.h s.l
      ∃ t f, exec .dec_atHL s = .next t ∧ (t.readByte a).toNat = ((s.readByte a).toNat + 255) % 256 ∧
        FlagBits f (decide (128 ≤ (t.readByte a).toNat)) (decide (t.readByte a = 0)) (s.f.getLsbD 5) (s.f.getLsbD 4)
          (s.f.getLsbD 3) (s.f.getLsbD 2) true (s.f.getLsbD 0) ∧
        Unsettled 0x14 f s t ∧ RegsSame [] s t ∧ WideSame [] s t ∧ t.pc = s.pc ∧ MemSameBut [a] s t ∧ SideSame s t)

/-- INC rr and DEC rr (R304, R305): the pair rises or falls by 1 modulo 65536; no flag is written, S and Z being unsettled
(R48); nothing else changes. (The spec's decision D13; the free value is log entry 6.) -/
def Obligations.StepWideRegister : Prop :=
  (∀ i r b, (i, r, b) ∈ incWideForms → encode i = [b] ∧
    ∀ s : State, ∃ t, exec i s = .next t ∧ (t.reg16 r).toNat = ((s.reg16 r).toNat + 1) % 65536 ∧
      Unsettled 0xC0 s.f s t ∧ RegsSame (halves r) s t ∧ WideSame [r] s t ∧ t.pc = s.pc ∧ MemSameBut [] s t ∧
      SideSame s t) ∧
  (∀ i r b, (i, r, b) ∈ decWideForms → encode i = [b] ∧
    ∀ s : State, ∃ t, exec i s = .next t ∧ (t.reg16 r).toNat = ((s.reg16 r).toNat + 65535) % 65536 ∧
      Unsettled 0xC0 s.f s t ∧ RegsSame (halves r) s t ∧ WideSame [r] s t ∧ t.pc = s.pc ∧ MemSameBut [] s t ∧
      SideSame s t)

/-! ### Rotates, carry and complement -/

/-- RLCA, RRCA, RLA, RRA (R310 to R313): A rotates by one bit, circularly or through the Carry; C is the bit that left;
every other bit of F is kept; nothing else changes. Each is admitted exactly when it is in rotAccOps. -/
def Obligations.RotateAccumulator : Prop :=
  (∀ (cfg : Config) (i : Instr) (r : RotOp) (b : Byte),
    (i, r, b) ∈ [(Instr.rlca, RotOp.rlca, (0x07 : Byte)), (.rrca, .rrca, 0x0F), (.rla, .rla, 0x17), (.rra, .rra, 0x1F)] →
      encode i = [b] ∧ decodeBytes cfg [b] = if r ∈ cfg.rotAccOps then .instr i 1 else .undecodable [b]) ∧
  ∀ s : State,
    (∃ t, exec .rlca s = .next t ∧ t.a.toNat = (s.a.toNat * 2 + s.a.toNat / 128) % 256 ∧
      FlagBits t.f (s.f.getLsbD 7) (s.f.getLsbD 6) (s.f.getLsbD 5) (s.f.getLsbD 4) (s.f.getLsbD 3) (s.f.getLsbD 2)
        (s.f.getLsbD 1) (s.a.getLsbD 7) ∧ OnlyRegsAndF [.a] s t) ∧
    (∃ t, exec .rrca s = .next t ∧ t.a.toNat = s.a.toNat / 2 + 128 * (s.a.toNat % 2) ∧
      FlagBits t.f (s.f.getLsbD 7) (s.f.getLsbD 6) (s.f.getLsbD 5) (s.f.getLsbD 4) (s.f.getLsbD 3) (s.f.getLsbD 2)
        (s.f.getLsbD 1) (s.a.getLsbD 0) ∧ OnlyRegsAndF [.a] s t) ∧
    (∃ t, exec .rla s = .next t ∧ t.a.toNat = (s.a.toNat * 2 + (s.f.getLsbD 0).toNat) % 256 ∧
      FlagBits t.f (s.f.getLsbD 7) (s.f.getLsbD 6) (s.f.getLsbD 5) (s.f.getLsbD 4) (s.f.getLsbD 3) (s.f.getLsbD 2)
        (s.f.getLsbD 1) (s.a.getLsbD 7) ∧ OnlyRegsAndF [.a] s t) ∧
    (∃ t, exec .rra s = .next t ∧ t.a.toNat = s.a.toNat / 2 + 128 * (s.f.getLsbD 0).toNat ∧
      FlagBits t.f (s.f.getLsbD 7) (s.f.getLsbD 6) (s.f.getLsbD 5) (s.f.getLsbD 4) (s.f.getLsbD 3) (s.f.getLsbD 2)
        (s.f.getLsbD 1) (s.a.getLsbD 0) ∧ OnlyRegsAndF [.a] s t)

/-- SCF, CCF, CPL (R320 to R322): SCF sets C; CCF inverts C; CPL inverts A. H, N, bits 5 and 3 are unsettled (R48); under
decided H is 0, the old C, 1, and N is 0, 0, 1. Nothing else changes. (H and N by the spec's
decision D11; the free value is log entry 6.) -/
def Obligations.CarryAndComplement : Prop :=
  encode .scf = [0x37] ∧ encode .ccf = [0x3F] ∧ encode .cpl = [0x2F] ∧ ∀ s : State,
    let kept (h n c : Bool) (f : Byte) : Prop :=
      FlagBits f (s.f.getLsbD 7) (s.f.getLsbD 6) (s.f.getLsbD 5) h (s.f.getLsbD 3) (s.f.getLsbD 2) n c
    let frame (regs : List Reg8) (t : State) : Prop :=
      RegsSame regs s t ∧ WideSame [] s t ∧ t.pc = s.pc ∧ MemSameBut [] s t ∧ SideSame s t
    (∃ t f, exec .scf s = .next t ∧ kept false false true f ∧ Unsettled 0x3A f s t ∧ frame [] t) ∧
    (∃ t f, exec .ccf s = .next t ∧ kept (s.f.getLsbD 0) false (!s.f.getLsbD 0) f ∧ Unsettled 0x3A f s t ∧ frame [] t) ∧
    (∃ t f, exec .cpl s = .next t ∧ t.a.toNat = 255 - s.a.toNat ∧ kept true true (s.f.getLsbD 0) f ∧
      Unsettled 0x3A f s t ∧ frame [.a] t)

/-! ### Control transfer -/

/-- JP nn and JP cc,nn (R332, R333): PC becomes nn, for JP cc,nn if the condition holds, and stays past the instruction if
it does not; nothing else changes. -/
def Obligations.AbsoluteJumpsWriteOnlyPc : Prop :=
  (∀ nn : Word, encode (.jp_nn nn) = [0xC3, BitVec.ofNat 8 nn.toNat, BitVec.ofNat 8 (nn.toNat / 256)] ∧
    ∀ s : State, ∃ t, exec (.jp_nn nn) s = .next t ∧ t.pc = nn ∧ OnlyPc s t) ∧
  (∀ i cc b, (i, cc, b) ∈ jpIfForms → ∀ nn : Word,
    encode (i nn) = [b, BitVec.ofNat 8 nn.toNat, BitVec.ofNat 8 (nn.toNat / 256)] ∧
    ∀ s : State, ∃ t, exec (i nn) s = .next t ∧ t.pc = (if condHolds cc s.f then nn else s.pc) ∧ OnlyPc s t)

/-- JR e and JR cc,e (R330, R334, R335): PC becomes the PC past the instruction plus the signed displacement, modulo 65536,
for JR cc,e if the condition holds, and stays past the instruction if it does not; nothing else changes. DJNZ e (R336):
B falls by 1 modulo 256, and PC becomes the relative target if the new B is not 0 (an old B of 0 branches); no flag is
written; nothing else changes. (The displacement's base and the counter register are the spec's decision D18.) -/
def Obligations.RelativeJumpsAndDjnz : Prop :=
  (∀ e : Byte, encode (.jr_e e) = [0x18, e] ∧
    ∀ s : State, ∃ t, exec (.jr_e e) s = .next t ∧ t.pc = BitVec.ofInt 16 (s.pc.toNat + e.toInt) ∧ OnlyPc s t) ∧
  (∀ i cc b, (i, cc, b) ∈ jrIfForms → ∀ e : Byte, encode (i e) = [b, e] ∧
    ∀ s : State, ∃ t, exec (i e) s = .next t ∧
      t.pc = (if condHolds cc s.f then BitVec.ofInt 16 (s.pc.toNat + e.toInt) else s.pc) ∧ OnlyPc s t) ∧
  ∀ e : Byte, encode (.djnz_e e) = [0x10, e] ∧
    ∀ s : State, ∃ t, exec (.djnz_e e) s = .next t ∧ t.b.toNat = (s.b.toNat + 255) % 256 ∧
      t.pc = (if s.b = 1 then s.pc else BitVec.ofInt 16 (s.pc.toNat + e.toInt)) ∧
      RegsSame [.b] s t ∧ WideSame [] s t ∧ FlagsSame s t ∧ MemSameBut [] s t ∧ SideSame s t

/-- CALL nn, CALL cc,nn and RST p (R337, R338, R341): PC, past the instruction, is pushed and PC becomes the target or the
vector; a call whose condition is false changes nothing. -/
def Obligations.CallsPushTheReturnAddress : Prop :=
  let pushed (target : Word) (s t : State) : Prop :=
    t.pc = target ∧ t.sp = s.sp - 2 ∧ WordAt t (s.sp - 2) s.pc ∧ OnlyPcSpAndStack s t
  (∀ nn : Word, encode (.call_nn nn) = [0xCD, BitVec.ofNat 8 nn.toNat, BitVec.ofNat 8 (nn.toNat / 256)] ∧
    ∀ s : State, ∃ t, exec (.call_nn nn) s = .next t ∧ pushed nn s t) ∧
  (∀ i cc b, (i, cc, b) ∈ callIfForms → ∀ nn : Word,
    encode (i nn) = [b, BitVec.ofNat 8 nn.toNat, BitVec.ofNat 8 (nn.toNat / 256)] ∧
    ∀ s : State, ∃ t, exec (i nn) s = .next t ∧ (if condHolds cc s.f then pushed nn s t else t = s)) ∧
  (∀ i p b, (i, p, b) ∈ rstForms → encode i = [b] ∧
    ∀ s : State, ∃ t, exec i s = .next t ∧ pushed p s t)

/-- RET and RET cc (R339, R340): PC becomes the word at SP and SP rises by 2; a return whose condition is false changes
nothing; memory and everything else are unchanged. -/
def Obligations.ReturnsPopThePc : Prop :=
  let popped (s t : State) : Prop :=
    t.pc = wordAt s s.sp ∧ t.sp = s.sp + 2 ∧ RegsSame [] s t ∧ WideSame [.sp] s t ∧ FlagsSame s t ∧
      MemSameBut [] s t ∧ SideSame s t
  (encode .ret = [0xC9] ∧ ∀ s : State, ∃ t, exec .ret s = .next t ∧ popped s t) ∧
  (∀ i cc b, (i, cc, b) ∈ retIfForms → encode i = [b] ∧
    ∀ s : State, ∃ t, exec i s = .next t ∧ (if condHolds cc s.f then popped s t else t = s))

/-! ### The bit-operations page -/

/-- BIT b,r and BIT b,(HL) (R360, R361): Z is the inverse of the bit, H is 1, every other bit of F is kept; nothing else
changes. -/
def Obligations.BitTestsOneBit : Prop :=
  let tested (v : Bool) (s t : State) : Prop :=
    FlagBits t.f (s.f.getLsbD 7) (!v) (s.f.getLsbD 5) true (s.f.getLsbD 3) (s.f.getLsbD 2) (s.f.getLsbD 1)
      (s.f.getLsbD 0) ∧ OnlyRegsAndF [] s t
  (∀ i b r, (i, b, r) ∈ bitRegForms → encode i = [0xCB, BitVec.ofNat 8 (0x40 + 8 * b + selectorOf r)] ∧
    ∀ s : State, ∃ t, exec i s = .next t ∧ tested ((s.reg r).getLsbD b) s t) ∧
  (∀ i b, (i, b) ∈ bitHlForms → encode i = [0xCB, BitVec.ofNat 8 (0x46 + 8 * b)] ∧
    ∀ s : State, ∃ t, exec i s = .next t ∧ tested ((s.readByte (wordOf s.h s.l)).getLsbD b) s t)

/-- SET b,r, RES b,r, SET b,(HL), RES b,(HL) (R362 to R365): the bit becomes 1 or 0, every other bit of the operand is kept;
no flag and nothing else changes. -/
def Obligations.SetAndResetOneBit : Prop :=
  let written (v : Bool) (b : Nat) (old new : Byte) : Prop :=
    new.getLsbD b = v ∧ ∀ k, k < 8 → k ≠ b → new.getLsbD k = old.getLsbD k
  (∀ i b r, (i, b, r) ∈ setRegForms → encode i = [0xCB, BitVec.ofNat 8 (0xC0 + 8 * b + selectorOf r)] ∧
    ∀ s : State, ∃ t, exec i s = .next t ∧ written true b (s.reg r) (t.reg r) ∧ OnlyRegs [r] s t) ∧
  (∀ i b r, (i, b, r) ∈ resRegForms → encode i = [0xCB, BitVec.ofNat 8 (0x80 + 8 * b + selectorOf r)] ∧
    ∀ s : State, ∃ t, exec i s = .next t ∧ written false b (s.reg r) (t.reg r) ∧ OnlyRegs [r] s t) ∧
  (∀ i b, (i, b) ∈ setHlForms → encode i = [0xCB, BitVec.ofNat 8 (0xC6 + 8 * b)] ∧
    ∀ s : State, let a := wordOf s.h s.l
      ∃ t, exec i s = .next t ∧ written true b (s.readByte a) (t.readByte a) ∧ OnlyMem [a] s t) ∧
  (∀ i b, (i, b) ∈ resHlForms → encode i = [0xCB, BitVec.ofNat 8 (0x86 + 8 * b)] ∧
    ∀ s : State, let a := wordOf s.h s.l
      ∃ t, exec i s = .next t ∧ written false b (s.readByte a) (t.readByte a) ∧ OnlyMem [a] s t)

/-- SRL r and SRL (HL) (R368, R369): the operand is halved, C is its old bit 0, Z says the result is 0, every other bit of F
is 0; nothing else changes. -/
def Obligations.ShiftRightLogical : Prop :=
  let flags (old new : Byte) (f : Byte) : Prop :=
    FlagBits f false (decide (new = 0)) false false false false false (old.getLsbD 0)
  (∀ i r, (i, r) ∈ srlRegForms → encode i = [0xCB, BitVec.ofNat 8 (0x38 + selectorOf r)] ∧
    ∀ s : State, ∃ t, exec i s = .next t ∧ (t.reg r).toNat = (s.reg r).toNat / 2 ∧ flags (s.reg r) (t.reg r) t.f ∧
      OnlyRegsAndF [r] s t) ∧
  (encode .srl_atHL = [0xCB, 0x3E] ∧ ∀ s : State, let a := wordOf s.h s.l
    ∃ t, exec .srl_atHL s = .next t ∧ (t.readByte a).toNat = (s.readByte a).toNat / 2 ∧
      flags (s.readByte a) (t.readByte a) t.f ∧ RegsSame [] s t ∧ WideSame [] s t ∧ t.draws = s.draws ∧ t.pc = s.pc ∧
      MemSameBut [a] s t ∧ SideSame s t)

/-! ### The indexed page and HALT -/

/-- LD r,(XY+d) (R414): r becomes the byte at XY plus the signed displacement, modulo 65536; nothing else changes. The row
is admitted exactly when its prefix and its register selected (the spec's decisions D15, D16). -/
def Obligations.LdRegisterIndexed : Prop :=
  ∀ i xy r, (i, xy, r) ∈ ldIdxForms → ∀ d : Byte,
    encode (i d) = [prefixOf xy, BitVec.ofNat 8 (0x46 + 8 * selectorOf r), d] ∧
    (∀ cfg : Config, xy ∈ cfg.idxPrefixes → decodeBytes cfg (encode (i d)) =
      if r ∈ cfg.idxLoadRegs then .instr (i d) 3
      else .undecodable [prefixOf xy, BitVec.ofNat 8 (0x46 + 8 * selectorOf r)]) ∧
    ∀ s : State, ∃ t, exec (i d) s = .next t ∧
      t.reg r = s.readByte (BitVec.ofInt 16 ((match xy with | .ix => s.ix | .iy => s.iy).toNat + d.toInt)) ∧
      OnlyRegs [r] s t

/-- HALT as a frame tick (R440, R441), when halted-no-keys does not stop it: the head of the queue, or the no-key value if
the queue is empty, is written to the last-key cell, one byte or two; exactly that head is consumed; no register, no flag
and nothing else changes, PC staying past the HALT. (The spec's
decisions D23, D24.) -/
def Obligations.HaltIsAFrameTick : Prop :=
  encode .halt = [0x76] ∧ ∀ s : State, ¬haltCondition s →
    let v : Word := s.queue.head?.getD s.cfg.noKeyValue
    let k := s.cfg.lastKeyAddr
    ∃ t, exec .halt s = .next t ∧ t.queue = s.queue.tail ∧ (t.readByte k).toNat = v.toNat % 256 ∧
      (s.cfg.keyWidth = .two → (t.readByte (k + 1)).toNat = v.toNat / 256) ∧
      MemSameBut (match s.cfg.keyWidth with | .one => [k] | .two => [k, k + 1]) s t ∧
      RegsSame [] s t ∧ WideSame [] s t ∧ FlagsSame s t ∧ t.pc = s.pc ∧ t.pcSet = s.pcSet ∧ t.lines = s.lines ∧
      t.partialLine = s.partialLine ∧ t.counter = s.counter ∧ t.haltPolicy = s.haltPolicy ∧ t.status = s.status ∧
      t.cfg = s.cfg

/-- HALT under halted-no-keys (R442): with haltPolicy, an empty queue and the no-key value in the cell, the run stops with
that outcome, PC back at the HALT's own address, and nothing else changes.
(The spec's decision D25; log entry 14 says how the model recovers that address.) -/
def Obligations.HaltWithNoKeysStops : Prop :=
  ∀ s : State, haltCondition s → exec .halt s = .next { s with pc := s.pc - 1, status := .haltedNoKeys }
end

