-- ==== Sys2Proof/Laws/State.lean ====
section
/-! SUPPORT. One lemma per field per named update of State, so that no proof unfolds a record update. -/

namespace Sys2Proof.Machine

/-! #### setReg -/

@[simp] theorem State.setReg_f (s : State) (r : Reg8) (v : Byte) : (s.setReg r v).f = s.f := by cases r <;> rfl
@[simp] theorem State.setReg_sp (s : State) (r : Reg8) (v : Byte) : (s.setReg r v).sp = s.sp := by cases r <;> rfl
@[simp] theorem State.setReg_pc (s : State) (r : Reg8) (v : Byte) : (s.setReg r v).pc = s.pc := by cases r <;> rfl
@[simp] theorem State.setReg_pcSet (s : State) (r : Reg8) (v : Byte) :
    (s.setReg r v).pcSet = s.pcSet := by cases r <;> rfl
@[simp] theorem State.setReg_ix (s : State) (r : Reg8) (v : Byte) : (s.setReg r v).ix = s.ix := by cases r <;> rfl
@[simp] theorem State.setReg_iy (s : State) (r : Reg8) (v : Byte) : (s.setReg r v).iy = s.iy := by cases r <;> rfl
@[simp] theorem State.setReg_mem (s : State) (r : Reg8) (v : Byte) : (s.setReg r v).mem = s.mem := by cases r <;> rfl
@[simp] theorem State.setReg_lines (s : State) (r : Reg8) (v : Byte) :
    (s.setReg r v).lines = s.lines := by cases r <;> rfl
@[simp] theorem State.setReg_partialLine (s : State) (r : Reg8) (v : Byte) :
    (s.setReg r v).partialLine = s.partialLine := by cases r <;> rfl
@[simp] theorem State.setReg_queue (s : State) (r : Reg8) (v : Byte) :
    (s.setReg r v).queue = s.queue := by cases r <;> rfl
@[simp] theorem State.setReg_counter (s : State) (r : Reg8) (v : Byte) :
    (s.setReg r v).counter = s.counter := by cases r <;> rfl
@[simp] theorem State.setReg_haltPolicy (s : State) (r : Reg8) (v : Byte) :
    (s.setReg r v).haltPolicy = s.haltPolicy := by cases r <;> rfl
@[simp] theorem State.setReg_status (s : State) (r : Reg8) (v : Byte) :
    (s.setReg r v).status = s.status := by cases r <;> rfl
@[simp] theorem State.setReg_cfg (s : State) (r : Reg8) (v : Byte) : (s.setReg r v).cfg = s.cfg := by cases r <;> rfl
@[simp] theorem State.setReg_draws (s : State) (r : Reg8) (v : Byte) :
    (s.setReg r v).draws = s.draws := by cases r <;> rfl

/-! #### setReg16 -/

@[simp] theorem State.setReg16_pc (s : State) (r : Reg16) (v : Word) :
    (s.setReg16 r v).pc = s.pc := by cases r <;> rfl
@[simp] theorem State.setReg16_pcSet (s : State) (r : Reg16) (v : Word) :
    (s.setReg16 r v).pcSet = s.pcSet := by cases r <;> rfl
@[simp] theorem State.setReg16_mem (s : State) (r : Reg16) (v : Word) :
    (s.setReg16 r v).mem = s.mem := by cases r <;> rfl
@[simp] theorem State.setReg16_lines (s : State) (r : Reg16) (v : Word) :
    (s.setReg16 r v).lines = s.lines := by cases r <;> rfl
@[simp] theorem State.setReg16_partialLine (s : State) (r : Reg16) (v : Word) :
    (s.setReg16 r v).partialLine = s.partialLine := by cases r <;> rfl
@[simp] theorem State.setReg16_queue (s : State) (r : Reg16) (v : Word) :
    (s.setReg16 r v).queue = s.queue := by cases r <;> rfl
@[simp] theorem State.setReg16_counter (s : State) (r : Reg16) (v : Word) :
    (s.setReg16 r v).counter = s.counter := by cases r <;> rfl
@[simp] theorem State.setReg16_haltPolicy (s : State) (r : Reg16) (v : Word) :
    (s.setReg16 r v).haltPolicy = s.haltPolicy := by cases r <;> rfl
@[simp] theorem State.setReg16_status (s : State) (r : Reg16) (v : Word) :
    (s.setReg16 r v).status = s.status := by cases r <;> rfl
@[simp] theorem State.setReg16_cfg (s : State) (r : Reg16) (v : Word) :
    (s.setReg16 r v).cfg = s.cfg := by cases r <;> rfl
@[simp] theorem State.setReg16_draws (s : State) (r : Reg16) (v : Word) :
    (s.setReg16 r v).draws = s.draws := by cases r <;> rfl

/-! #### setF -/

@[simp] theorem State.setF_a (s : State) (v : Byte) : (s.setF v).a = s.a := rfl
@[simp] theorem State.setF_b (s : State) (v : Byte) : (s.setF v).b = s.b := rfl
@[simp] theorem State.setF_c (s : State) (v : Byte) : (s.setF v).c = s.c := rfl
@[simp] theorem State.setF_d (s : State) (v : Byte) : (s.setF v).d = s.d := rfl
@[simp] theorem State.setF_e (s : State) (v : Byte) : (s.setF v).e = s.e := rfl
@[simp] theorem State.setF_h (s : State) (v : Byte) : (s.setF v).h = s.h := rfl
@[simp] theorem State.setF_l (s : State) (v : Byte) : (s.setF v).l = s.l := rfl
@[simp] theorem State.setF_sp (s : State) (v : Byte) : (s.setF v).sp = s.sp := rfl
@[simp] theorem State.setF_pc (s : State) (v : Byte) : (s.setF v).pc = s.pc := rfl
@[simp] theorem State.setF_pcSet (s : State) (v : Byte) : (s.setF v).pcSet = s.pcSet := rfl
@[simp] theorem State.setF_ix (s : State) (v : Byte) : (s.setF v).ix = s.ix := rfl
@[simp] theorem State.setF_iy (s : State) (v : Byte) : (s.setF v).iy = s.iy := rfl
@[simp] theorem State.setF_mem (s : State) (v : Byte) : (s.setF v).mem = s.mem := rfl
@[simp] theorem State.setF_lines (s : State) (v : Byte) : (s.setF v).lines = s.lines := rfl
@[simp] theorem State.setF_partialLine (s : State) (v : Byte) : (s.setF v).partialLine = s.partialLine := rfl
@[simp] theorem State.setF_queue (s : State) (v : Byte) : (s.setF v).queue = s.queue := rfl
@[simp] theorem State.setF_counter (s : State) (v : Byte) : (s.setF v).counter = s.counter := rfl
@[simp] theorem State.setF_haltPolicy (s : State) (v : Byte) : (s.setF v).haltPolicy = s.haltPolicy := rfl
@[simp] theorem State.setF_status (s : State) (v : Byte) : (s.setF v).status = s.status := rfl
@[simp] theorem State.setF_cfg (s : State) (v : Byte) : (s.setF v).cfg = s.cfg := rfl
@[simp] theorem State.setF_draws (s : State) (v : Byte) : (s.setF v).draws = s.draws := rfl
@[simp] theorem State.setF_f (s : State) (v : Byte) : (s.setF v).f = v := rfl

/-! #### setPc -/

@[simp] theorem State.setPc_a (s : State) (v : Word) : (s.setPc v).a = s.a := rfl
@[simp] theorem State.setPc_f (s : State) (v : Word) : (s.setPc v).f = s.f := rfl
@[simp] theorem State.setPc_b (s : State) (v : Word) : (s.setPc v).b = s.b := rfl
@[simp] theorem State.setPc_c (s : State) (v : Word) : (s.setPc v).c = s.c := rfl
@[simp] theorem State.setPc_d (s : State) (v : Word) : (s.setPc v).d = s.d := rfl
@[simp] theorem State.setPc_e (s : State) (v : Word) : (s.setPc v).e = s.e := rfl
@[simp] theorem State.setPc_h (s : State) (v : Word) : (s.setPc v).h = s.h := rfl
@[simp] theorem State.setPc_l (s : State) (v : Word) : (s.setPc v).l = s.l := rfl
@[simp] theorem State.setPc_sp (s : State) (v : Word) : (s.setPc v).sp = s.sp := rfl
@[simp] theorem State.setPc_pcSet (s : State) (v : Word) : (s.setPc v).pcSet = s.pcSet := rfl
@[simp] theorem State.setPc_ix (s : State) (v : Word) : (s.setPc v).ix = s.ix := rfl
@[simp] theorem State.setPc_iy (s : State) (v : Word) : (s.setPc v).iy = s.iy := rfl
@[simp] theorem State.setPc_mem (s : State) (v : Word) : (s.setPc v).mem = s.mem := rfl
@[simp] theorem State.setPc_lines (s : State) (v : Word) : (s.setPc v).lines = s.lines := rfl
@[simp] theorem State.setPc_partialLine (s : State) (v : Word) : (s.setPc v).partialLine = s.partialLine := rfl
@[simp] theorem State.setPc_queue (s : State) (v : Word) : (s.setPc v).queue = s.queue := rfl
@[simp] theorem State.setPc_counter (s : State) (v : Word) : (s.setPc v).counter = s.counter := rfl
@[simp] theorem State.setPc_haltPolicy (s : State) (v : Word) : (s.setPc v).haltPolicy = s.haltPolicy := rfl
@[simp] theorem State.setPc_status (s : State) (v : Word) : (s.setPc v).status = s.status := rfl
@[simp] theorem State.setPc_cfg (s : State) (v : Word) : (s.setPc v).cfg = s.cfg := rfl
@[simp] theorem State.setPc_draws (s : State) (v : Word) : (s.setPc v).draws = s.draws := rfl
@[simp] theorem State.setPc_pc (s : State) (v : Word) : (s.setPc v).pc = v := rfl

/-! #### writeByte -/

@[simp] theorem State.writeByte_a (s : State) (x : Word) (v : Byte) : (s.writeByte x v).a = s.a := rfl
@[simp] theorem State.writeByte_f (s : State) (x : Word) (v : Byte) : (s.writeByte x v).f = s.f := rfl
@[simp] theorem State.writeByte_b (s : State) (x : Word) (v : Byte) : (s.writeByte x v).b = s.b := rfl
@[simp] theorem State.writeByte_c (s : State) (x : Word) (v : Byte) : (s.writeByte x v).c = s.c := rfl
@[simp] theorem State.writeByte_d (s : State) (x : Word) (v : Byte) : (s.writeByte x v).d = s.d := rfl
@[simp] theorem State.writeByte_e (s : State) (x : Word) (v : Byte) : (s.writeByte x v).e = s.e := rfl
@[simp] theorem State.writeByte_h (s : State) (x : Word) (v : Byte) : (s.writeByte x v).h = s.h := rfl
@[simp] theorem State.writeByte_l (s : State) (x : Word) (v : Byte) : (s.writeByte x v).l = s.l := rfl
@[simp] theorem State.writeByte_sp (s : State) (x : Word) (v : Byte) : (s.writeByte x v).sp = s.sp := rfl
@[simp] theorem State.writeByte_pc (s : State) (x : Word) (v : Byte) : (s.writeByte x v).pc = s.pc := rfl
@[simp] theorem State.writeByte_pcSet (s : State) (x : Word) (v : Byte) : (s.writeByte x v).pcSet = s.pcSet := rfl
@[simp] theorem State.writeByte_ix (s : State) (x : Word) (v : Byte) : (s.writeByte x v).ix = s.ix := rfl
@[simp] theorem State.writeByte_iy (s : State) (x : Word) (v : Byte) : (s.writeByte x v).iy = s.iy := rfl
@[simp] theorem State.writeByte_lines (s : State) (x : Word) (v : Byte) : (s.writeByte x v).lines = s.lines := rfl
@[simp] theorem State.writeByte_partialLine (s : State) (x : Word) (v : Byte) :
    (s.writeByte x v).partialLine = s.partialLine := rfl
@[simp] theorem State.writeByte_queue (s : State) (x : Word) (v : Byte) : (s.writeByte x v).queue = s.queue := rfl
@[simp] theorem State.writeByte_counter (s : State) (x : Word) (v : Byte) :
    (s.writeByte x v).counter = s.counter := rfl
@[simp] theorem State.writeByte_haltPolicy (s : State) (x : Word) (v : Byte) :
    (s.writeByte x v).haltPolicy = s.haltPolicy := rfl
@[simp] theorem State.writeByte_status (s : State) (x : Word) (v : Byte) : (s.writeByte x v).status = s.status := rfl
@[simp] theorem State.writeByte_cfg (s : State) (x : Word) (v : Byte) : (s.writeByte x v).cfg = s.cfg := rfl
@[simp] theorem State.writeByte_draws (s : State) (x : Word) (v : Byte) : (s.writeByte x v).draws = s.draws := rfl
@[simp] theorem State.writeByte_mem (s : State) (x : Word) (v : Byte) :
    (s.writeByte x v).mem = s.mem.write x.toNat v := rfl

/-! #### writeWord -/

@[simp] theorem State.writeWord_a (s : State) (x v : Word) : (s.writeWord x v).a = s.a := rfl
@[simp] theorem State.writeWord_f (s : State) (x v : Word) : (s.writeWord x v).f = s.f := rfl
@[simp] theorem State.writeWord_b (s : State) (x v : Word) : (s.writeWord x v).b = s.b := rfl
@[simp] theorem State.writeWord_c (s : State) (x v : Word) : (s.writeWord x v).c = s.c := rfl
@[simp] theorem State.writeWord_d (s : State) (x v : Word) : (s.writeWord x v).d = s.d := rfl
@[simp] theorem State.writeWord_e (s : State) (x v : Word) : (s.writeWord x v).e = s.e := rfl
@[simp] theorem State.writeWord_h (s : State) (x v : Word) : (s.writeWord x v).h = s.h := rfl
@[simp] theorem State.writeWord_l (s : State) (x v : Word) : (s.writeWord x v).l = s.l := rfl
@[simp] theorem State.writeWord_sp (s : State) (x v : Word) : (s.writeWord x v).sp = s.sp := rfl
@[simp] theorem State.writeWord_pc (s : State) (x v : Word) : (s.writeWord x v).pc = s.pc := rfl
@[simp] theorem State.writeWord_pcSet (s : State) (x v : Word) : (s.writeWord x v).pcSet = s.pcSet := rfl
@[simp] theorem State.writeWord_ix (s : State) (x v : Word) : (s.writeWord x v).ix = s.ix := rfl
@[simp] theorem State.writeWord_iy (s : State) (x v : Word) : (s.writeWord x v).iy = s.iy := rfl
@[simp] theorem State.writeWord_lines (s : State) (x v : Word) : (s.writeWord x v).lines = s.lines := rfl
@[simp] theorem State.writeWord_partialLine (s : State) (x v : Word) :
    (s.writeWord x v).partialLine = s.partialLine := rfl
@[simp] theorem State.writeWord_queue (s : State) (x v : Word) : (s.writeWord x v).queue = s.queue := rfl
@[simp] theorem State.writeWord_counter (s : State) (x v : Word) : (s.writeWord x v).counter = s.counter := rfl
@[simp] theorem State.writeWord_haltPolicy (s : State) (x v : Word) :
    (s.writeWord x v).haltPolicy = s.haltPolicy := rfl
@[simp] theorem State.writeWord_status (s : State) (x v : Word) : (s.writeWord x v).status = s.status := rfl
@[simp] theorem State.writeWord_cfg (s : State) (x v : Word) : (s.writeWord x v).cfg = s.cfg := rfl
@[simp] theorem State.writeWord_draws (s : State) (x v : Word) : (s.writeWord x v).draws = s.draws := rfl

/-! #### push16 -/

@[simp] theorem State.push16_a (s : State) (v : Word) : (s.push16 v).a = s.a := rfl
@[simp] theorem State.push16_f (s : State) (v : Word) : (s.push16 v).f = s.f := rfl
@[simp] theorem State.push16_b (s : State) (v : Word) : (s.push16 v).b = s.b := rfl
@[simp] theorem State.push16_c (s : State) (v : Word) : (s.push16 v).c = s.c := rfl
@[simp] theorem State.push16_d (s : State) (v : Word) : (s.push16 v).d = s.d := rfl
@[simp] theorem State.push16_e (s : State) (v : Word) : (s.push16 v).e = s.e := rfl
@[simp] theorem State.push16_h (s : State) (v : Word) : (s.push16 v).h = s.h := rfl
@[simp] theorem State.push16_l (s : State) (v : Word) : (s.push16 v).l = s.l := rfl
@[simp] theorem State.push16_pc (s : State) (v : Word) : (s.push16 v).pc = s.pc := rfl
@[simp] theorem State.push16_pcSet (s : State) (v : Word) : (s.push16 v).pcSet = s.pcSet := rfl
@[simp] theorem State.push16_ix (s : State) (v : Word) : (s.push16 v).ix = s.ix := rfl
@[simp] theorem State.push16_iy (s : State) (v : Word) : (s.push16 v).iy = s.iy := rfl
@[simp] theorem State.push16_lines (s : State) (v : Word) : (s.push16 v).lines = s.lines := rfl
@[simp] theorem State.push16_partialLine (s : State) (v : Word) : (s.push16 v).partialLine = s.partialLine := rfl
@[simp] theorem State.push16_queue (s : State) (v : Word) : (s.push16 v).queue = s.queue := rfl
@[simp] theorem State.push16_counter (s : State) (v : Word) : (s.push16 v).counter = s.counter := rfl
@[simp] theorem State.push16_haltPolicy (s : State) (v : Word) : (s.push16 v).haltPolicy = s.haltPolicy := rfl
@[simp] theorem State.push16_status (s : State) (v : Word) : (s.push16 v).status = s.status := rfl
@[simp] theorem State.push16_cfg (s : State) (v : Word) : (s.push16 v).cfg = s.cfg := rfl
@[simp] theorem State.push16_draws (s : State) (v : Word) : (s.push16 v).draws = s.draws := rfl
@[simp] theorem State.push16_sp (s : State) (v : Word) : (s.push16 v).sp = s.sp - 2 := rfl

/-! #### dropTop -/

@[simp] theorem State.dropTop_a (s : State) : s.dropTop.a = s.a := rfl
@[simp] theorem State.dropTop_f (s : State) : s.dropTop.f = s.f := rfl
@[simp] theorem State.dropTop_b (s : State) : s.dropTop.b = s.b := rfl
@[simp] theorem State.dropTop_c (s : State) : s.dropTop.c = s.c := rfl
@[simp] theorem State.dropTop_d (s : State) : s.dropTop.d = s.d := rfl
@[simp] theorem State.dropTop_e (s : State) : s.dropTop.e = s.e := rfl
@[simp] theorem State.dropTop_h (s : State) : s.dropTop.h = s.h := rfl
@[simp] theorem State.dropTop_l (s : State) : s.dropTop.l = s.l := rfl
@[simp] theorem State.dropTop_pc (s : State) : s.dropTop.pc = s.pc := rfl
@[simp] theorem State.dropTop_pcSet (s : State) : s.dropTop.pcSet = s.pcSet := rfl
@[simp] theorem State.dropTop_ix (s : State) : s.dropTop.ix = s.ix := rfl
@[simp] theorem State.dropTop_iy (s : State) : s.dropTop.iy = s.iy := rfl
@[simp] theorem State.dropTop_mem (s : State) : s.dropTop.mem = s.mem := rfl
@[simp] theorem State.dropTop_lines (s : State) : s.dropTop.lines = s.lines := rfl
@[simp] theorem State.dropTop_partialLine (s : State) : s.dropTop.partialLine = s.partialLine := rfl
@[simp] theorem State.dropTop_queue (s : State) : s.dropTop.queue = s.queue := rfl
@[simp] theorem State.dropTop_counter (s : State) : s.dropTop.counter = s.counter := rfl
@[simp] theorem State.dropTop_haltPolicy (s : State) : s.dropTop.haltPolicy = s.haltPolicy := rfl
@[simp] theorem State.dropTop_status (s : State) : s.dropTop.status = s.status := rfl
@[simp] theorem State.dropTop_cfg (s : State) : s.dropTop.cfg = s.cfg := rfl
@[simp] theorem State.dropTop_draws (s : State) : s.dropTop.draws = s.draws := rfl
@[simp] theorem State.dropTop_sp (s : State) : s.dropTop.sp = s.sp + 2 := rfl

/-! #### popPc -/

@[simp] theorem State.popPc_a (s : State) : s.popPc.a = s.a := rfl
@[simp] theorem State.popPc_f (s : State) : s.popPc.f = s.f := rfl
@[simp] theorem State.popPc_b (s : State) : s.popPc.b = s.b := rfl
@[simp] theorem State.popPc_c (s : State) : s.popPc.c = s.c := rfl
@[simp] theorem State.popPc_d (s : State) : s.popPc.d = s.d := rfl
@[simp] theorem State.popPc_e (s : State) : s.popPc.e = s.e := rfl
@[simp] theorem State.popPc_h (s : State) : s.popPc.h = s.h := rfl
@[simp] theorem State.popPc_l (s : State) : s.popPc.l = s.l := rfl
@[simp] theorem State.popPc_pcSet (s : State) : s.popPc.pcSet = s.pcSet := rfl
@[simp] theorem State.popPc_ix (s : State) : s.popPc.ix = s.ix := rfl
@[simp] theorem State.popPc_iy (s : State) : s.popPc.iy = s.iy := rfl
@[simp] theorem State.popPc_mem (s : State) : s.popPc.mem = s.mem := rfl
@[simp] theorem State.popPc_lines (s : State) : s.popPc.lines = s.lines := rfl
@[simp] theorem State.popPc_partialLine (s : State) : s.popPc.partialLine = s.partialLine := rfl
@[simp] theorem State.popPc_queue (s : State) : s.popPc.queue = s.queue := rfl
@[simp] theorem State.popPc_counter (s : State) : s.popPc.counter = s.counter := rfl
@[simp] theorem State.popPc_haltPolicy (s : State) : s.popPc.haltPolicy = s.haltPolicy := rfl
@[simp] theorem State.popPc_status (s : State) : s.popPc.status = s.status := rfl
@[simp] theorem State.popPc_cfg (s : State) : s.popPc.cfg = s.cfg := rfl
@[simp] theorem State.popPc_draws (s : State) : s.popPc.draws = s.draws := rfl
@[simp] theorem State.popPc_sp (s : State) : s.popPc.sp = s.sp + 2 := rfl
@[simp] theorem State.popPc_pc (s : State) : s.popPc.pc = s.top16 := rfl

/-! #### stop -/

@[simp] theorem State.stop_a (s : State) (o : Status) : (s.stop o).a = s.a := rfl
@[simp] theorem State.stop_f (s : State) (o : Status) : (s.stop o).f = s.f := rfl
@[simp] theorem State.stop_b (s : State) (o : Status) : (s.stop o).b = s.b := rfl
@[simp] theorem State.stop_c (s : State) (o : Status) : (s.stop o).c = s.c := rfl
@[simp] theorem State.stop_d (s : State) (o : Status) : (s.stop o).d = s.d := rfl
@[simp] theorem State.stop_e (s : State) (o : Status) : (s.stop o).e = s.e := rfl
@[simp] theorem State.stop_h (s : State) (o : Status) : (s.stop o).h = s.h := rfl
@[simp] theorem State.stop_l (s : State) (o : Status) : (s.stop o).l = s.l := rfl
@[simp] theorem State.stop_sp (s : State) (o : Status) : (s.stop o).sp = s.sp := rfl
@[simp] theorem State.stop_pc (s : State) (o : Status) : (s.stop o).pc = s.pc := rfl
@[simp] theorem State.stop_pcSet (s : State) (o : Status) : (s.stop o).pcSet = s.pcSet := rfl
@[simp] theorem State.stop_ix (s : State) (o : Status) : (s.stop o).ix = s.ix := rfl
@[simp] theorem State.stop_iy (s : State) (o : Status) : (s.stop o).iy = s.iy := rfl
@[simp] theorem State.stop_mem (s : State) (o : Status) : (s.stop o).mem = s.mem := rfl
@[simp] theorem State.stop_lines (s : State) (o : Status) : (s.stop o).lines = s.lines := rfl
@[simp] theorem State.stop_partialLine (s : State) (o : Status) : (s.stop o).partialLine = s.partialLine := rfl
@[simp] theorem State.stop_queue (s : State) (o : Status) : (s.stop o).queue = s.queue := rfl
@[simp] theorem State.stop_counter (s : State) (o : Status) : (s.stop o).counter = s.counter := rfl
@[simp] theorem State.stop_haltPolicy (s : State) (o : Status) : (s.stop o).haltPolicy = s.haltPolicy := rfl
@[simp] theorem State.stop_cfg (s : State) (o : Status) : (s.stop o).cfg = s.cfg := rfl
@[simp] theorem State.stop_draws (s : State) (o : Status) : (s.stop o).draws = s.draws := rfl
@[simp] theorem State.stop_status (s : State) (o : Status) : (s.stop o).status = o := rfl

/-! #### settle -/

@[simp] theorem State.settle_a (s : State) (m : Byte) : (s.settle m).a = s.a := by
  unfold State.settle; split <;> rfl
@[simp] theorem State.settle_b (s : State) (m : Byte) : (s.settle m).b = s.b := by
  unfold State.settle; split <;> rfl
@[simp] theorem State.settle_c (s : State) (m : Byte) : (s.settle m).c = s.c := by
  unfold State.settle; split <;> rfl
@[simp] theorem State.settle_d (s : State) (m : Byte) : (s.settle m).d = s.d := by
  unfold State.settle; split <;> rfl
@[simp] theorem State.settle_e (s : State) (m : Byte) : (s.settle m).e = s.e := by
  unfold State.settle; split <;> rfl
@[simp] theorem State.settle_h (s : State) (m : Byte) : (s.settle m).h = s.h := by
  unfold State.settle; split <;> rfl
@[simp] theorem State.settle_l (s : State) (m : Byte) : (s.settle m).l = s.l := by
  unfold State.settle; split <;> rfl
@[simp] theorem State.settle_sp (s : State) (m : Byte) : (s.settle m).sp = s.sp := by
  unfold State.settle; split <;> rfl
@[simp] theorem State.settle_pc (s : State) (m : Byte) : (s.settle m).pc = s.pc := by
  unfold State.settle; split <;> rfl
@[simp] theorem State.settle_pcSet (s : State) (m : Byte) : (s.settle m).pcSet = s.pcSet := by
  unfold State.settle; split <;> rfl
@[simp] theorem State.settle_ix (s : State) (m : Byte) : (s.settle m).ix = s.ix := by
  unfold State.settle; split <;> rfl
@[simp] theorem State.settle_iy (s : State) (m : Byte) : (s.settle m).iy = s.iy := by
  unfold State.settle; split <;> rfl
@[simp] theorem State.settle_mem (s : State) (m : Byte) : (s.settle m).mem = s.mem := by
  unfold State.settle; split <;> rfl
@[simp] theorem State.settle_lines (s : State) (m : Byte) : (s.settle m).lines = s.lines := by
  unfold State.settle; split <;> rfl
@[simp] theorem State.settle_partialLine (s : State) (m : Byte) : (s.settle m).partialLine = s.partialLine := by
  unfold State.settle; split <;> rfl
@[simp] theorem State.settle_queue (s : State) (m : Byte) : (s.settle m).queue = s.queue := by
  unfold State.settle; split <;> rfl
@[simp] theorem State.settle_counter (s : State) (m : Byte) : (s.settle m).counter = s.counter := by
  unfold State.settle; split <;> rfl
@[simp] theorem State.settle_haltPolicy (s : State) (m : Byte) : (s.settle m).haltPolicy = s.haltPolicy := by
  unfold State.settle; split <;> rfl
@[simp] theorem State.settle_status (s : State) (m : Byte) : (s.settle m).status = s.status := by
  unfold State.settle; split <;> rfl
@[simp] theorem State.settle_cfg (s : State) (m : Byte) : (s.settle m).cfg = s.cfg := by
  unfold State.settle; split <;> rfl

/-! #### clearOutput -/

@[simp] theorem State.clearOutput_a (s : State) : s.clearOutput.a = s.a := rfl
@[simp] theorem State.clearOutput_f (s : State) : s.clearOutput.f = s.f := rfl
@[simp] theorem State.clearOutput_b (s : State) : s.clearOutput.b = s.b := rfl
@[simp] theorem State.clearOutput_c (s : State) : s.clearOutput.c = s.c := rfl
@[simp] theorem State.clearOutput_d (s : State) : s.clearOutput.d = s.d := rfl
@[simp] theorem State.clearOutput_e (s : State) : s.clearOutput.e = s.e := rfl
@[simp] theorem State.clearOutput_h (s : State) : s.clearOutput.h = s.h := rfl
@[simp] theorem State.clearOutput_l (s : State) : s.clearOutput.l = s.l := rfl
@[simp] theorem State.clearOutput_sp (s : State) : s.clearOutput.sp = s.sp := rfl
@[simp] theorem State.clearOutput_pc (s : State) : s.clearOutput.pc = s.pc := rfl
@[simp] theorem State.clearOutput_pcSet (s : State) : s.clearOutput.pcSet = s.pcSet := rfl
@[simp] theorem State.clearOutput_ix (s : State) : s.clearOutput.ix = s.ix := rfl
@[simp] theorem State.clearOutput_iy (s : State) : s.clearOutput.iy = s.iy := rfl
@[simp] theorem State.clearOutput_mem (s : State) : s.clearOutput.mem = s.mem := rfl
@[simp] theorem State.clearOutput_queue (s : State) : s.clearOutput.queue = s.queue := rfl
@[simp] theorem State.clearOutput_counter (s : State) : s.clearOutput.counter = s.counter := rfl
@[simp] theorem State.clearOutput_haltPolicy (s : State) : s.clearOutput.haltPolicy = s.haltPolicy := rfl
@[simp] theorem State.clearOutput_status (s : State) : s.clearOutput.status = s.status := rfl
@[simp] theorem State.clearOutput_cfg (s : State) : s.clearOutput.cfg = s.cfg := rfl
@[simp] theorem State.clearOutput_draws (s : State) : s.clearOutput.draws = s.draws := rfl
@[simp] theorem State.clearOutput_lines (s : State) : s.clearOutput.lines = [] := rfl
@[simp] theorem State.clearOutput_partialLine (s : State) : s.clearOutput.partialLine = [] := rfl

/-! #### print -/

@[simp] theorem State.print_a (s : State) (x : Byte) : (s.print x).a = s.a := by
  unfold State.print; split <;> rfl
@[simp] theorem State.print_f (s : State) (x : Byte) : (s.print x).f = s.f := by
  unfold State.print; split <;> rfl
@[simp] theorem State.print_b (s : State) (x : Byte) : (s.print x).b = s.b := by
  unfold State.print; split <;> rfl
@[simp] theorem State.print_c (s : State) (x : Byte) : (s.print x).c = s.c := by
  unfold State.print; split <;> rfl
@[simp] theorem State.print_d (s : State) (x : Byte) : (s.print x).d = s.d := by
  unfold State.print; split <;> rfl
@[simp] theorem State.print_e (s : State) (x : Byte) : (s.print x).e = s.e := by
  unfold State.print; split <;> rfl
@[simp] theorem State.print_h (s : State) (x : Byte) : (s.print x).h = s.h := by
  unfold State.print; split <;> rfl
@[simp] theorem State.print_l (s : State) (x : Byte) : (s.print x).l = s.l := by
  unfold State.print; split <;> rfl
@[simp] theorem State.print_sp (s : State) (x : Byte) : (s.print x).sp = s.sp := by
  unfold State.print; split <;> rfl
@[simp] theorem State.print_pc (s : State) (x : Byte) : (s.print x).pc = s.pc := by
  unfold State.print; split <;> rfl
@[simp] theorem State.print_pcSet (s : State) (x : Byte) : (s.print x).pcSet = s.pcSet := by
  unfold State.print; split <;> rfl
@[simp] theorem State.print_ix (s : State) (x : Byte) : (s.print x).ix = s.ix := by
  unfold State.print; split <;> rfl
@[simp] theorem State.print_iy (s : State) (x : Byte) : (s.print x).iy = s.iy := by
  unfold State.print; split <;> rfl
@[simp] theorem State.print_mem (s : State) (x : Byte) : (s.print x).mem = s.mem := by
  unfold State.print; split <;> rfl
@[simp] theorem State.print_queue (s : State) (x : Byte) : (s.print x).queue = s.queue := by
  unfold State.print; split <;> rfl
@[simp] theorem State.print_counter (s : State) (x : Byte) : (s.print x).counter = s.counter := by
  unfold State.print; split <;> rfl
@[simp] theorem State.print_haltPolicy (s : State) (x : Byte) : (s.print x).haltPolicy = s.haltPolicy := by
  unfold State.print; split <;> rfl
@[simp] theorem State.print_status (s : State) (x : Byte) : (s.print x).status = s.status := by
  unfold State.print; split <;> rfl
@[simp] theorem State.print_cfg (s : State) (x : Byte) : (s.print x).cfg = s.cfg := by
  unfold State.print; split <;> rfl
@[simp] theorem State.print_draws (s : State) (x : Byte) : (s.print x).draws = s.draws := by
  unfold State.print; split <;> rfl

/-! #### setLastKey -/

@[simp] theorem State.setLastKey_a (s : State) (v : Word) : (s.setLastKey v).a = s.a := by
  unfold State.setLastKey; split <;> rfl
@[simp] theorem State.setLastKey_f (s : State) (v : Word) : (s.setLastKey v).f = s.f := by
  unfold State.setLastKey; split <;> rfl
@[simp] theorem State.setLastKey_b (s : State) (v : Word) : (s.setLastKey v).b = s.b := by
  unfold State.setLastKey; split <;> rfl
@[simp] theorem State.setLastKey_c (s : State) (v : Word) : (s.setLastKey v).c = s.c := by
  unfold State.setLastKey; split <;> rfl
@[simp] theorem State.setLastKey_d (s : State) (v : Word) : (s.setLastKey v).d = s.d := by
  unfold State.setLastKey; split <;> rfl
@[simp] theorem State.setLastKey_e (s : State) (v : Word) : (s.setLastKey v).e = s.e := by
  unfold State.setLastKey; split <;> rfl
@[simp] theorem State.setLastKey_h (s : State) (v : Word) : (s.setLastKey v).h = s.h := by
  unfold State.setLastKey; split <;> rfl
@[simp] theorem State.setLastKey_l (s : State) (v : Word) : (s.setLastKey v).l = s.l := by
  unfold State.setLastKey; split <;> rfl
@[simp] theorem State.setLastKey_sp (s : State) (v : Word) : (s.setLastKey v).sp = s.sp := by
  unfold State.setLastKey; split <;> rfl
@[simp] theorem State.setLastKey_pc (s : State) (v : Word) : (s.setLastKey v).pc = s.pc := by
  unfold State.setLastKey; split <;> rfl
@[simp] theorem State.setLastKey_pcSet (s : State) (v : Word) : (s.setLastKey v).pcSet = s.pcSet := by
  unfold State.setLastKey; split <;> rfl
@[simp] theorem State.setLastKey_ix (s : State) (v : Word) : (s.setLastKey v).ix = s.ix := by
  unfold State.setLastKey; split <;> rfl
@[simp] theorem State.setLastKey_iy (s : State) (v : Word) : (s.setLastKey v).iy = s.iy := by
  unfold State.setLastKey; split <;> rfl
@[simp] theorem State.setLastKey_lines (s : State) (v : Word) : (s.setLastKey v).lines = s.lines := by
  unfold State.setLastKey; split <;> rfl
@[simp] theorem State.setLastKey_partialLine (s : State) (v : Word) :
    (s.setLastKey v).partialLine = s.partialLine := by
  unfold State.setLastKey; split <;> rfl
@[simp] theorem State.setLastKey_queue (s : State) (v : Word) : (s.setLastKey v).queue = s.queue := by
  unfold State.setLastKey; split <;> rfl
@[simp] theorem State.setLastKey_counter (s : State) (v : Word) : (s.setLastKey v).counter = s.counter := by
  unfold State.setLastKey; split <;> rfl
@[simp] theorem State.setLastKey_haltPolicy (s : State) (v : Word) : (s.setLastKey v).haltPolicy = s.haltPolicy := by
  unfold State.setLastKey; split <;> rfl
@[simp] theorem State.setLastKey_status (s : State) (v : Word) : (s.setLastKey v).status = s.status := by
  unfold State.setLastKey; split <;> rfl
@[simp] theorem State.setLastKey_cfg (s : State) (v : Word) : (s.setLastKey v).cfg = s.cfg := by
  unfold State.setLastKey; split <;> rfl
@[simp] theorem State.setLastKey_draws (s : State) (v : Word) : (s.setLastKey v).draws = s.draws := by
  unfold State.setLastKey; split <;> rfl

/-! #### tick -/

@[simp] theorem State.tick_a (s : State) : s.tick.a = s.a := rfl
@[simp] theorem State.tick_f (s : State) : s.tick.f = s.f := rfl
@[simp] theorem State.tick_b (s : State) : s.tick.b = s.b := rfl
@[simp] theorem State.tick_c (s : State) : s.tick.c = s.c := rfl
@[simp] theorem State.tick_d (s : State) : s.tick.d = s.d := rfl
@[simp] theorem State.tick_e (s : State) : s.tick.e = s.e := rfl
@[simp] theorem State.tick_h (s : State) : s.tick.h = s.h := rfl
@[simp] theorem State.tick_l (s : State) : s.tick.l = s.l := rfl
@[simp] theorem State.tick_sp (s : State) : s.tick.sp = s.sp := rfl
@[simp] theorem State.tick_pc (s : State) : s.tick.pc = s.pc := rfl
@[simp] theorem State.tick_pcSet (s : State) : s.tick.pcSet = s.pcSet := rfl
@[simp] theorem State.tick_ix (s : State) : s.tick.ix = s.ix := rfl
@[simp] theorem State.tick_iy (s : State) : s.tick.iy = s.iy := rfl
@[simp] theorem State.tick_mem (s : State) : s.tick.mem = s.mem := rfl
@[simp] theorem State.tick_lines (s : State) : s.tick.lines = s.lines := rfl
@[simp] theorem State.tick_partialLine (s : State) : s.tick.partialLine = s.partialLine := rfl
@[simp] theorem State.tick_queue (s : State) : s.tick.queue = s.queue := rfl
@[simp] theorem State.tick_haltPolicy (s : State) : s.tick.haltPolicy = s.haltPolicy := rfl
@[simp] theorem State.tick_status (s : State) : s.tick.status = s.status := rfl
@[simp] theorem State.tick_cfg (s : State) : s.tick.cfg = s.cfg := rfl
@[simp] theorem State.tick_draws (s : State) : s.tick.draws = s.draws := rfl
@[simp] theorem State.tick_counter (s : State) : s.tick.counter = s.counter + 1 := rfl

/-! #### advance -/

@[simp] theorem State.advance_a (s : State) (n : Nat) : (s.advance n).a = s.a := rfl
@[simp] theorem State.advance_f (s : State) (n : Nat) : (s.advance n).f = s.f := rfl
@[simp] theorem State.advance_b (s : State) (n : Nat) : (s.advance n).b = s.b := rfl
@[simp] theorem State.advance_c (s : State) (n : Nat) : (s.advance n).c = s.c := rfl
@[simp] theorem State.advance_d (s : State) (n : Nat) : (s.advance n).d = s.d := rfl
@[simp] theorem State.advance_e (s : State) (n : Nat) : (s.advance n).e = s.e := rfl
@[simp] theorem State.advance_h (s : State) (n : Nat) : (s.advance n).h = s.h := rfl
@[simp] theorem State.advance_l (s : State) (n : Nat) : (s.advance n).l = s.l := rfl
@[simp] theorem State.advance_sp (s : State) (n : Nat) : (s.advance n).sp = s.sp := rfl
@[simp] theorem State.advance_pcSet (s : State) (n : Nat) : (s.advance n).pcSet = s.pcSet := rfl
@[simp] theorem State.advance_ix (s : State) (n : Nat) : (s.advance n).ix = s.ix := rfl
@[simp] theorem State.advance_iy (s : State) (n : Nat) : (s.advance n).iy = s.iy := rfl
@[simp] theorem State.advance_mem (s : State) (n : Nat) : (s.advance n).mem = s.mem := rfl
@[simp] theorem State.advance_lines (s : State) (n : Nat) : (s.advance n).lines = s.lines := rfl
@[simp] theorem State.advance_partialLine (s : State) (n : Nat) : (s.advance n).partialLine = s.partialLine := rfl
@[simp] theorem State.advance_queue (s : State) (n : Nat) : (s.advance n).queue = s.queue := rfl
@[simp] theorem State.advance_counter (s : State) (n : Nat) : (s.advance n).counter = s.counter := rfl
@[simp] theorem State.advance_haltPolicy (s : State) (n : Nat) : (s.advance n).haltPolicy = s.haltPolicy := rfl
@[simp] theorem State.advance_status (s : State) (n : Nat) : (s.advance n).status = s.status := rfl
@[simp] theorem State.advance_cfg (s : State) (n : Nat) : (s.advance n).cfg = s.cfg := rfl
@[simp] theorem State.advance_draws (s : State) (n : Nat) : (s.advance n).draws = s.draws := rfl
@[simp] theorem State.advance_pc (s : State) (n : Nat) : (s.advance n).pc = s.pc + BitVec.ofNat 16 n := rfl

/-! #### decodeFails -/

@[simp] theorem State.decodeFails_a (s : State) (bs : List Byte) : (s.decodeFails bs).a = s.a := rfl
@[simp] theorem State.decodeFails_f (s : State) (bs : List Byte) : (s.decodeFails bs).f = s.f := rfl
@[simp] theorem State.decodeFails_b (s : State) (bs : List Byte) : (s.decodeFails bs).b = s.b := rfl
@[simp] theorem State.decodeFails_c (s : State) (bs : List Byte) : (s.decodeFails bs).c = s.c := rfl
@[simp] theorem State.decodeFails_d (s : State) (bs : List Byte) : (s.decodeFails bs).d = s.d := rfl
@[simp] theorem State.decodeFails_e (s : State) (bs : List Byte) : (s.decodeFails bs).e = s.e := rfl
@[simp] theorem State.decodeFails_h (s : State) (bs : List Byte) : (s.decodeFails bs).h = s.h := rfl
@[simp] theorem State.decodeFails_l (s : State) (bs : List Byte) : (s.decodeFails bs).l = s.l := rfl
@[simp] theorem State.decodeFails_sp (s : State) (bs : List Byte) : (s.decodeFails bs).sp = s.sp := rfl
@[simp] theorem State.decodeFails_pc (s : State) (bs : List Byte) : (s.decodeFails bs).pc = s.pc := rfl
@[simp] theorem State.decodeFails_pcSet (s : State) (bs : List Byte) : (s.decodeFails bs).pcSet = s.pcSet := rfl
@[simp] theorem State.decodeFails_ix (s : State) (bs : List Byte) : (s.decodeFails bs).ix = s.ix := rfl
@[simp] theorem State.decodeFails_iy (s : State) (bs : List Byte) : (s.decodeFails bs).iy = s.iy := rfl
@[simp] theorem State.decodeFails_mem (s : State) (bs : List Byte) : (s.decodeFails bs).mem = s.mem := rfl
@[simp] theorem State.decodeFails_lines (s : State) (bs : List Byte) : (s.decodeFails bs).lines = s.lines := rfl
@[simp] theorem State.decodeFails_partialLine (s : State) (bs : List Byte) :
    (s.decodeFails bs).partialLine = s.partialLine := rfl
@[simp] theorem State.decodeFails_queue (s : State) (bs : List Byte) : (s.decodeFails bs).queue = s.queue := rfl
@[simp] theorem State.decodeFails_counter (s : State) (bs : List Byte) : (s.decodeFails bs).counter = s.counter := rfl
@[simp] theorem State.decodeFails_haltPolicy (s : State) (bs : List Byte) :
    (s.decodeFails bs).haltPolicy = s.haltPolicy := rfl
@[simp] theorem State.decodeFails_cfg (s : State) (bs : List Byte) : (s.decodeFails bs).cfg = s.cfg := rfl
@[simp] theorem State.decodeFails_draws (s : State) (bs : List Byte) : (s.decodeFails bs).draws = s.draws := rfl
@[simp] theorem State.decodeFails_status (s : State) (bs : List Byte) :
    (s.decodeFails bs).status = .decodeError s.pc bs := rfl

/-! #### Registers as a family -/

@[simp] theorem State.reg_setReg_same (s : State) (r : Reg8) (v : Byte) : (s.setReg r v).reg r = v := by
  cases r <;> rfl

theorem State.reg_setReg_ne (s : State) {r q : Reg8} (v : Byte) (h : q ≠ r) : (s.setReg r v).reg q = s.reg q := by
  cases r <;> cases q <;> first | rfl | exact absurd rfl h

@[simp] theorem State.setReg_self (s : State) (r : Reg8) : s.setReg r (s.reg r) = s := by
  cases r <;> rfl

@[simp] theorem State.reg_setF (s : State) (r : Reg8) (v : Byte) : (s.setF v).reg r = s.reg r := by cases r <;> rfl
@[simp] theorem State.reg_setPc (s : State) (r : Reg8) (v : Word) : (s.setPc v).reg r = s.reg r := by cases r <;> rfl
@[simp] theorem State.reg_writeByte (s : State) (r : Reg8) (x : Word) (v : Byte) :
    (s.writeByte x v).reg r = s.reg r := by cases r <;> rfl
@[simp] theorem State.reg_writeWord (s : State) (r : Reg8) (x v : Word) :
    (s.writeWord x v).reg r = s.reg r := by cases r <;> rfl
@[simp] theorem State.reg_push16 (s : State) (r : Reg8) (v : Word) : (s.push16 v).reg r = s.reg r := by cases r <;> rfl
@[simp] theorem State.reg_dropTop (s : State) (r : Reg8) : s.dropTop.reg r = s.reg r := by cases r <;> rfl
@[simp] theorem State.reg_popPc (s : State) (r : Reg8) : s.popPc.reg r = s.reg r := by cases r <;> rfl
@[simp] theorem State.reg_stop (s : State) (r : Reg8) (o : Status) : (s.stop o).reg r = s.reg r := by cases r <;> rfl
@[simp] theorem State.reg_settle (s : State) (r : Reg8) (m : Byte) : (s.settle m).reg r = s.reg r := by
  cases r <;> simp [State.reg]
@[simp] theorem State.reg_setLastKey (s : State) (r : Reg8) (v : Word) : (s.setLastKey v).reg r = s.reg r := by
  cases r <;> simp [State.reg]

/-! #### Bytes of memory -/

@[simp] theorem State.readByte_setReg (s : State) (r : Reg8) (v : Byte) (a : Word) :
    (s.setReg r v).readByte a = s.readByte a := by simp [State.readByte]
@[simp] theorem State.readByte_setReg16 (s : State) (r : Reg16) (v : Word) (a : Word) :
    (s.setReg16 r v).readByte a = s.readByte a := by simp [State.readByte]
@[simp] theorem State.readByte_setF (s : State) (v : Byte) (a : Word) : (s.setF v).readByte a = s.readByte a := rfl
@[simp] theorem State.readByte_setPc (s : State) (v a : Word) : (s.setPc v).readByte a = s.readByte a := rfl
@[simp] theorem State.readByte_dropTop (s : State) (a : Word) : s.dropTop.readByte a = s.readByte a := rfl
@[simp] theorem State.readByte_popPc (s : State) (a : Word) : s.popPc.readByte a = s.readByte a := rfl
@[simp] theorem State.readByte_stop (s : State) (o : Status) (a : Word) : (s.stop o).readByte a = s.readByte a := rfl
@[simp] theorem State.readByte_settle (s : State) (m : Byte) (a : Word) :
    (s.settle m).readByte a = s.readByte a := by simp [State.readByte]
@[simp] theorem State.readByte_tick (s : State) (a : Word) : s.tick.readByte a = s.readByte a := rfl
@[simp] theorem State.readByte_advance (s : State) (n : Nat) (a : Word) :
    (s.advance n).readByte a = s.readByte a := rfl

/-! #### Recursive writes keep everything but memory -/

theorem State.writeCells_eq (ws : List (Word × Byte)) (s : State) :
    s.writeCells ws = { s with mem := (s.writeCells ws).mem } := by
  induction ws generalizing s with
  | nil => rfl
  | cons w ws ih => rw [State.writeCells, ih]; rfl

theorem State.writeBlock_eq (bs : List Byte) (base : Word) (s : State) :
    s.writeBlock base bs = { s with mem := (s.writeBlock base bs).mem } := by
  induction bs generalizing s base with
  | nil => rfl
  | cons b bs ih => rw [State.writeBlock, ih]; rfl

end Sys2Proof.Machine
end

