-- ==== Sys2Proof/Laws/Flags.lean ====
section
/-! SUPPORT. The laws of the flag bits (10_state.md R36 to R38, R48): a flag written is the flag read, the others are
kept, and what the unsettled bits may become. -/

namespace Sys2Proof.Machine

/-- A flag is one bit of F. -/
def flagBit : Flag → Nat
  | .s => 7
  | .z => 6
  | .h => 4
  | .pv => 2
  | .n => 1
  | .c => 0

theorem getFlag_eq_bit (f : Byte) (fl : Flag) : getFlag f fl = f.getLsbD (flagBit fl) := by
  revert f
  cases fl <;> decide

/-- The mask of a flag has its one bit. -/
theorem getLsbD_flagMask (fl : Flag) (i : Nat) (hi : i < 8) :
    (flagMask fl).getLsbD i = decide (i = flagBit fl) := by
  have : ∀ i : Fin 8, (flagMask fl).getLsbD i.val = decide (i.val = flagBit fl) := by
    cases fl <;> decide
  exact this ⟨i, hi⟩

theorem getLsbD_setFlag (f : Byte) (fl : Flag) (v : Bool) (i : Nat) (hi : i < 8) :
    (setFlag f fl v).getLsbD i = if i = flagBit fl then v else f.getLsbD i := by
  have hm := getLsbD_flagMask fl i hi
  rw [setFlag, BitVec.getLsbD_or, BitVec.getLsbD_and, BitVec.getLsbD_not, hm]
  by_cases h : i = flagBit fl <;> cases v <;> simp_all

@[simp] theorem getFlag_setFlag_same (f : Byte) (fl : Flag) (v : Bool) : getFlag (setFlag f fl v) fl = v := by
  rw [getFlag_eq_bit, getLsbD_setFlag f fl v _ (by cases fl <;> decide), if_pos rfl]

theorem getFlag_setFlag_ne (f : Byte) {fl q : Flag} (v : Bool) (h : q ≠ fl) :
    getFlag (setFlag f fl v) q = getFlag f q := by
  rw [getFlag_eq_bit, getFlag_eq_bit, getLsbD_setFlag f fl v _ (by cases q <;> decide), if_neg]
  cases fl <;> cases q <;> first | decide | exact absurd rfl h

/-- Under `decided` nothing is unsettled. -/
theorem State.settle_decided {s : State} (h : s.cfg.unsettledFlagMode = .decided) (m : Byte) : s.settle m = s := by
  unfold State.settle
  rw [h]

/-- Under `draw` the bits of the mask become free, and the others are kept. -/
theorem State.settle_draw {s : State} (h : s.cfg.unsettledFlagMode = .draw) (m : Byte) :
    s.settle m =
      { s with f := (s.f &&& ~~~m) ||| (Config.freeFlags s.draws &&& m), draws := s.draws + 1 } := by
  unfold State.settle
  rw [h]

/-- In either mode the bits outside the mask are the ones just written. -/
theorem State.settle_keeps (s : State) (m : Byte) : (s.settle m).f &&& ~~~m = s.f &&& ~~~m := by
  unfold State.settle
  split
  · rfl
  · ext i hi
    simp only [BitVec.getElem_and, BitVec.getElem_or, BitVec.getElem_not]
    cases s.f[i] <;> cases m[i] <;> simp

end Sys2Proof.Machine
end

