-- ==== Sys2Proof/Laws/Memory.lean ====
section
/-! SUPPORT. The laws of memory (20_memory.md R80 to R96): read after write, the canonical form every operation keeps,
words as two bytes, push and pop. -/

namespace Sys2Proof.Machine

/-! ### Words and their bytes -/

@[simp] theorem hiByte_wordOf (h l : Byte) : hiByte (wordOf h l) = h := by
  apply BitVec.eq_of_toNat_eq
  have hh := h.isLt
  have hl := l.isLt
  simp only [hiByte, wordOf, BitVec.toNat_ofNat]
  omega

@[simp] theorem loByte_wordOf (h l : Byte) : loByte (wordOf h l) = l := by
  apply BitVec.eq_of_toNat_eq
  have hh := h.isLt
  have hl := l.isLt
  simp only [loByte, wordOf, BitVec.toNat_ofNat]
  omega

@[simp] theorem wordOf_hi_lo (w : Word) : wordOf (hiByte w) (loByte w) = w := by
  apply BitVec.eq_of_toNat_eq
  have hw := w.isLt
  simp only [wordOf, hiByte, loByte, BitVec.toNat_ofNat]
  omega

theorem word_succ_ne (a : Word) : a + 1 ≠ a := by
  intro h
  have := congrArg BitVec.toNat h
  have ha := a.isLt
  rw [BitVec.toNat_add, show (1 : Word).toNat = 1 from rfl] at this
  omega

/-! ### Cells -/

theorem Memory.read_erase (m : Memory) (a b : Nat) :
    (Memory.erase m a).read b = if a = b then Memory.blank else m.read b := by
  induction m with
  | nil => simp [Memory.erase, Memory.read]
  | cons c m ih =>
    obtain ⟨k, v⟩ := c
    simp only [Memory.erase]
    split
    · next h => subst h; rw [ih]; simp only [Memory.read]; split <;> rfl
    · next h =>
      simp only [Memory.read]
      split
      · next hb => subst hb; simp [Ne.symm h]
      · exact ih

theorem Memory.read_insert (m : Memory) (a b : Nat) (v : Byte) (hm : ∀ p ∈ m, p.1 ≠ a) :
    (Memory.insert m a v).read b = if a = b then v else m.read b := by
  induction m with
  | nil => simp [Memory.insert, Memory.read]
  | cons c m ih =>
    obtain ⟨k, w⟩ := c
    have hk : k ≠ a := hm (k, w) (by simp)
    simp only [Memory.insert]
    split
    · simp only [Memory.read]
    · simp only [Memory.read]
      split
      · next hb => subst hb; simp [Ne.symm hk]
      · exact ih (fun p hp => hm p (by simp [hp]))

theorem Memory.not_mem_erase (m : Memory) (a : Nat) : ∀ p ∈ Memory.erase m a, p.1 ≠ a := by
  induction m with
  | nil => simp [Memory.erase]
  | cons c m ih =>
    obtain ⟨k, v⟩ := c
    simp only [Memory.erase]
    split
    · exact ih
    · next h =>
      intro p hp
      rcases List.mem_cons.mp hp with rfl | hp
      · exact h
      · exact ih p hp

/-- Everything a byte write does to reads, in any memory. -/
theorem Memory.read_write (m : Memory) (a b : Nat) (v : Byte) :
    (m.write a v).read b = if a = b then v else m.read b := by
  unfold Memory.write
  split
  · next h => rw [Memory.read_erase]; simp [h]
  · rw [Memory.read_insert _ _ _ _ (Memory.not_mem_erase m a), Memory.read_erase]
    split <;> rfl

@[simp] theorem Memory.read_write_same (m : Memory) (a : Nat) (v : Byte) : (m.write a v).read a = v := by
  simp [Memory.read_write]

theorem Memory.read_write_ne (m : Memory) {a b : Nat} (v : Byte) (h : a ≠ b) : (m.write a v).read b = m.read b := by
  simp [Memory.read_write, h]

/-! ### The canonical form -/

theorem Memory.mem_of_mem_erase {m : Memory} {a : Nat} {p : Host.Cell} (h : p ∈ Memory.erase m a) : p ∈ m := by
  induction m with
  | nil => simp [Memory.erase] at h
  | cons c m ih =>
    obtain ⟨k, v⟩ := c
    simp only [Memory.erase] at h
    split at h
    · exact List.mem_cons_of_mem _ (ih h)
    · rcases List.mem_cons.mp h with rfl | h
      · exact List.mem_cons_self
      · exact List.mem_cons_of_mem _ (ih h)

theorem Memory.mem_of_mem_insert {m : Memory} {a : Nat} {v : Byte} {p : Host.Cell} (h : p ∈ Memory.insert m a v) :
    p = (a, v) ∨ p ∈ m := by
  induction m with
  | nil => simpa [Memory.insert] using h
  | cons c m ih =>
    obtain ⟨k, w⟩ := c
    simp only [Memory.insert] at h
    split at h
    · exact List.mem_cons.mp h
    · rcases List.mem_cons.mp h with rfl | h
      · exact .inr List.mem_cons_self
      · exact (ih h).imp id (List.mem_cons_of_mem _)

theorem Memory.wf_erase {m : Memory} (h : m.wf) (a : Nat) : (Memory.erase m a).wf := by
  refine ⟨?_, fun p hp => h.2 p (Memory.mem_of_mem_erase hp)⟩
  have hs := h.1
  clear h
  induction m with
  | nil => exact List.Pairwise.nil
  | cons c m ih =>
    obtain ⟨k, v⟩ := c
    simp only [Memory.erase]
    have hc := List.pairwise_cons.mp hs
    split
    · exact ih hc.2
    · exact List.pairwise_cons.mpr ⟨fun p hp => hc.1 p (Memory.mem_of_mem_erase hp), ih hc.2⟩

theorem Memory.wf_insert {m : Memory} (h : m.wf) {a : Nat} {v : Byte} (ha : a < 65536) (hv : v ≠ Memory.blank)
    (hm : ∀ p ∈ m, p.1 ≠ a) : (Memory.insert m a v).wf := by
  refine ⟨?_, fun p hp => ?_⟩
  · have hs := h.1
    clear h
    induction m with
    | nil => simp [Memory.insert]
    | cons c m ih =>
      obtain ⟨k, w⟩ := c
      have hc := List.pairwise_cons.mp hs
      have hk : k ≠ a := hm (k, w) (by simp)
      simp only [Memory.insert]
      split
      · next hlt =>
        refine List.pairwise_cons.mpr ⟨fun p hp => ?_, hs⟩
        rcases List.mem_cons.mp hp with rfl | hp
        · exact hlt
        · exact Nat.lt_trans hlt (hc.1 p hp)
      · next hnlt =>
        refine List.pairwise_cons.mpr ⟨fun p hp => ?_, ih (fun p hp => hm p (by simp [hp])) hc.2⟩
        rcases Memory.mem_of_mem_insert hp with rfl | hp
        · exact Nat.lt_of_le_of_ne (Nat.le_of_not_lt hnlt) hk
        · exact hc.1 p hp
  · rcases Memory.mem_of_mem_insert hp with rfl | hp
    · exact ⟨ha, hv⟩
    · exact h.2 p hp

/-- A byte write keeps the canonical form. -/
theorem Memory.wf_write {m : Memory} (h : m.wf) {a : Nat} (ha : a < 65536) (v : Byte) : (m.write a v).wf := by
  unfold Memory.write
  split
  · exact Memory.wf_erase h a
  · next hv => exact Memory.wf_insert (Memory.wf_erase h a) ha hv (Memory.not_mem_erase m a)

theorem State.wf_writeByte {s : State} (h : s.mem.wf) (a : Word) (v : Byte) : (s.writeByte a v).mem.wf :=
  Memory.wf_write h a.isLt v

theorem State.wf_writeWord {s : State} (h : s.mem.wf) (a v : Word) : (s.writeWord a v).mem.wf :=
  State.wf_writeByte (State.wf_writeByte h a (loByte v)) (a + 1) (hiByte v)

theorem State.wf_push16 {s : State} (h : s.mem.wf) (v : Word) : (s.push16 v).mem.wf :=
  State.wf_writeWord (s := { s with sp := s.sp - 2 }) h (s.sp - 2) v

theorem State.wf_writeCells {s : State} (h : s.mem.wf) (ws : List (Word × Byte)) : (s.writeCells ws).mem.wf := by
  induction ws generalizing s with
  | nil => exact h
  | cons w ws ih => exact ih (State.wf_writeByte h w.1 w.2)

theorem State.wf_writeBlock {s : State} (h : s.mem.wf) (base : Word) (bs : List Byte) :
    (s.writeBlock base bs).mem.wf := by
  induction bs generalizing s base with
  | nil => exact h
  | cons b bs ih => exact ih (State.wf_writeByte h base b) (base + 1)

theorem State.wf_setLastKey {s : State} (h : s.mem.wf) (v : Word) : (s.setLastKey v).mem.wf := by
  unfold State.setLastKey
  split
  · exact State.wf_writeByte h _ _
  · exact State.wf_writeWord h _ _

/-! ### Bytes and words -/

/-- Everything `MemWrite(a, 1, v)` does to a byte read (R82, R83). -/
theorem State.readByte_writeByte (s : State) (a b : Word) (v : Byte) :
    (s.writeByte a v).readByte b = if a = b then v else s.readByte b := by
  simp only [State.readByte, State.writeByte, Memory.read_write, BitVec.toNat_inj]

@[simp] theorem State.readByte_writeByte_same (s : State) (a : Word) (v : Byte) :
    (s.writeByte a v).readByte a = v := by simp [State.readByte_writeByte]

theorem State.readByte_writeByte_ne (s : State) {a b : Word} (v : Byte) (h : a ≠ b) :
    (s.writeByte a v).readByte b = s.readByte b := by simp [State.readByte_writeByte, h]

/-- Everything `MemWrite(a, 2, v)` does to a byte read (R85). -/
theorem State.readByte_writeWord (s : State) (a b v : Word) :
    (s.writeWord a v).readByte b =
      if a + 1 = b then hiByte v else if a = b then loByte v else s.readByte b := by
  simp only [State.writeWord, State.readByte_writeByte]

/-- A word written is the word read back (R84, R85, R88). -/
@[simp] theorem State.readWord_writeWord (s : State) (a v : Word) : (s.writeWord a v).readWord a = v := by
  simp [State.readWord, State.readByte_writeWord]

/-- Everything `push16(v)` does to a byte read (R95). -/
theorem State.readByte_push16 (s : State) (v b : Word) :
    (s.push16 v).readByte b =
      if s.sp - 2 + 1 = b then hiByte v else if s.sp - 2 = b then loByte v else s.readByte b := by
  unfold State.push16
  rw [State.readByte_writeWord]
  rfl

/-- The word pushed is on top (R95, R96). -/
@[simp] theorem State.top16_push16 (s : State) (v : Word) : (s.push16 v).top16 = v :=
  State.readWord_writeWord { s with sp := s.sp - 2 } (s.sp - 2) v

/-! ### 16-bit registers -/

@[simp] theorem State.reg16_setReg16_same (s : State) (r : Reg16) (v : Word) : (s.setReg16 r v).reg16 r = v := by
  cases r <;> simp [State.reg16, State.setReg16]

end Sys2Proof.Machine
end

