-- ==== Sys2Proof/Laws/Frames.lean ====
section
/-! SUPPORT. What each named update changes and what it leaves alone, in the words of Safety.lean; the flag bits each
flag computation gives. -/

namespace Sys2Proof.Machine

/-! ### Updates -/

theorem onlyRegs_setReg (s : State) (r : Reg8) (v : Byte) : OnlyRegs [r] s (s.setReg r v) := by
  cases r <;>
    simp [OnlyRegs, RegsSame, WideSame, FlagsSame, MemSameBut, SideSame, State.reg, State.reg16, State.setReg,
      State.readByte] <;>
    (intro q h; cases q <;> simp_all)

theorem onlyMem_writeByte (s : State) (a : Word) (v : Byte) : OnlyMem [a] s (s.writeByte a v) := by
  refine ⟨fun r _ => by cases r <;> rfl, fun r _ _ => by cases r <;> rfl, ⟨rfl, rfl⟩, rfl, fun b hb => ?_,
    ⟨rfl, rfl, rfl, rfl, rfl, rfl, rfl, rfl⟩⟩
  exact State.readByte_writeByte_ne s v (fun e => hb (by simp [e]))

theorem onlyMem_writeWord (s : State) (a v : Word) : OnlyMem [a, a + 1] s (s.writeWord a v) := by
  refine ⟨fun r _ => by cases r <;> rfl, fun r _ _ => by cases r <;> rfl, ⟨rfl, rfl⟩, rfl, fun b hb => ?_,
    ⟨rfl, rfl, rfl, rfl, rfl, rfl, rfl, rfl⟩⟩
  simp only [List.mem_cons, List.not_mem_nil, or_false, not_or] at hb
  rw [State.readByte_writeWord, if_neg (Ne.symm hb.2), if_neg (Ne.symm hb.1)]

theorem wordAt_writeWord (s : State) (a v : Word) : WordAt (s.writeWord a v) a v := by
  constructor
  · simp [State.readByte_writeWord, loByte]
  · simp [State.readByte_writeWord, hiByte]
    omega

/-- A word read is the word at the address. -/
theorem readWord_eq (s : State) (a : Word) : s.readWord a = wordAt s a := by
  simp only [State.readWord, wordAt, wordOf]
  congr 1
  omega

/-- A write of a 16-bit register other than AF. -/
theorem setReg16_frame (s : State) (r : Reg16) (v : Word) (hr : r ≠ .af) :
    RegsSame (halves r) s (s.setReg16 r v) ∧ WideSame [r] s (s.setReg16 r v) ∧ FlagsSame s (s.setReg16 r v) ∧
      (s.setReg16 r v).pc = s.pc ∧ MemSameBut [] s (s.setReg16 r v) ∧ SideSame s (s.setReg16 r v) := by
  cases r <;>
    simp_all [RegsSame, WideSame, FlagsSame, MemSameBut, SideSame, State.reg, State.reg16, State.setReg16,
      State.readByte, halves] <;>
    (intro q; cases q <;> simp_all)

/-- A write of F alone. -/
theorem onlyRegsAndF_setF (s : State) (v : Byte) : OnlyRegsAndF [] s (s.setF v) :=
  ⟨fun r _ => by cases r <;> rfl, fun r h _ => by cases r <;> first | rfl | simp at h, rfl, rfl, fun _ _ => rfl,
    ⟨rfl, rfl, rfl, rfl, rfl, rfl, rfl, rfl⟩⟩

/-- A write of one register and F. -/
theorem onlyRegsAndF_setReg_setF (s : State) (r : Reg8) (v f : Byte) : OnlyRegsAndF [r] s ((s.setReg r v).setF f) := by
  cases r <;>
    simp [OnlyRegsAndF, RegsSame, WideSame, MemSameBut, SideSame, State.reg, State.reg16, State.setReg,
      State.setF, State.readByte] <;>
    (intro q h; cases q <;> simp_all)

theorem onlyPc_setPc (s : State) (v : Word) : OnlyPc s (s.setPc v) :=
  ⟨fun r _ => by cases r <;> rfl, fun r _ _ => by cases r <;> rfl, ⟨rfl, rfl⟩, fun _ _ => rfl,
    ⟨rfl, rfl, rfl, rfl, rfl, rfl, rfl, rfl⟩⟩

/-- A push writes SP and the two bytes under it. -/
theorem push16_frame (s : State) (v : Word) :
    (s.push16 v).sp = s.sp - 2 ∧ WordAt (s.push16 v) (s.sp - 2) v ∧ OnlyPcSpAndStack s (s.push16 v) ∧
      (s.push16 v).pc = s.pc := by
  have e : s.sp - 2 + 1 = s.sp - 1 := by
    apply BitVec.eq_of_toNat_eq
    simp
    omega
  obtain ⟨-, -, -, -, hm, -⟩ := onlyMem_writeWord { s with sp := s.sp - 2 } (s.sp - 2) v
  rw [e] at hm
  exact ⟨rfl, wordAt_writeWord _ _ _, ⟨fun r _ => by cases r <;> rfl,
    fun r h hr => by cases r <;> first | rfl | exact absurd (by simp) hr, ⟨rfl, rfl⟩, hm,
    ⟨rfl, rfl, rfl, rfl, rfl, rfl, rfl, rfl⟩⟩, rfl⟩

/-- A pop into PC writes PC and SP. -/
theorem popPc_frame (s : State) :
    s.popPc.pc = wordAt s s.sp ∧ s.popPc.sp = s.sp + 2 ∧ RegsSame [] s s.popPc ∧ WideSame [.sp] s s.popPc ∧
      FlagsSame s s.popPc ∧ MemSameBut [] s s.popPc ∧ SideSame s s.popPc :=
  ⟨readWord_eq s s.sp, rfl, fun r _ => by cases r <;> rfl,
    fun r h hr => by cases r <;> first | rfl | exact absurd (by simp) hr, ⟨rfl, rfl⟩, fun _ _ => rfl,
    ⟨rfl, rfl, rfl, rfl, rfl, rfl, rfl, rfl⟩⟩

/-! ### Unsettled bits -/

/-- Marking bits unsettled gives what R48 says, and changes nothing but F and the number of draws. -/
theorem unsettled_settle {s t : State} (m : Byte) (hc : t.cfg = s.cfg) (hd : t.draws = s.draws) :
    Unsettled m t.f s (t.settle m) := by
  refine ⟨State.settle_keeps t m, fun h => ?_, fun h => ?_⟩
  · rw [State.settle_decided (by rw [hc]; exact h)]
    exact ⟨rfl, hd⟩
  · rw [State.settle_draw (by rw [hc]; exact h), hd]

theorem settle_reg (s : State) (m : Byte) (r : Reg8) : (s.settle m).reg r = s.reg r := by
  unfold State.settle
  split <;> cases r <;> rfl

theorem settle_readByte (s : State) (m : Byte) (a : Word) : (s.settle m).readByte a = s.readByte a := by
  unfold State.settle
  split <;> rfl

theorem settle_reg16 (s : State) (m : Byte) (r : Reg16) (h : r ≠ .af) : (s.settle m).reg16 r = s.reg16 r := by
  unfold State.settle
  split <;> cases r <;> first | rfl | exact absurd rfl h

/-! ### The bits of the flag computations -/

/-- The bits of a flag byte after flags were written one by one. -/
theorem bit_setFlag (f : Byte) (fl : Flag) (v : Bool) :
    (setFlag f fl v).getLsbD 7 = (if fl = .s then v else f.getLsbD 7) ∧
    (setFlag f fl v).getLsbD 6 = (if fl = .z then v else f.getLsbD 6) ∧
    (setFlag f fl v).getLsbD 5 = f.getLsbD 5 ∧
    (setFlag f fl v).getLsbD 4 = (if fl = .h then v else f.getLsbD 4) ∧
    (setFlag f fl v).getLsbD 3 = f.getLsbD 3 ∧
    (setFlag f fl v).getLsbD 2 = (if fl = .pv then v else f.getLsbD 2) ∧
    (setFlag f fl v).getLsbD 1 = (if fl = .n then v else f.getLsbD 1) ∧
    (setFlag f fl v).getLsbD 0 = (if fl = .c then v else f.getLsbD 0) := by
  refine ⟨?_, ?_, ?_, ?_, ?_, ?_, ?_, ?_⟩ <;> rw [getLsbD_setFlag _ _ _ _ (by omega)] <;> cases fl <;> simp [flagBit]

/-- A flag byte replaced wholesale has the six flags given, and bits 5 and 3 zero (R260). -/
theorem flagBits_wholesale (s z h pv n c : Bool) : FlagBits (wholesale s z h pv n c) s z false h false pv n c := by
  simp only [FlagBits, wholesale, bit_setFlag, reduceCtorEq, if_true, if_false]
  simp

/-- The sign/zero-only policy writes S and Z (R264). -/
theorem flagBits_sz8 (f r : Byte) :
    FlagBits (sz8 f r) (signBit r) (decide (r = 0)) (f.getLsbD 5) (f.getLsbD 4) (f.getLsbD 3) (f.getLsbD 2)
      (f.getLsbD 1) (f.getLsbD 0) := by
  simp only [FlagBits, sz8, bit_setFlag, reduceCtorEq, if_true, if_false]
  simp

/-- The 16-bit additive rule writes C and clears H and N (R265). -/
theorem flagBits_add16 (a b : Word) (f : Byte) :
    FlagBits (add16 a b f).2 (f.getLsbD 7) (f.getLsbD 6) (f.getLsbD 5) false (f.getLsbD 3) (f.getLsbD 2) false
      (decide (65535 < a.toNat + b.toNat)) := by
  simp only [FlagBits, add16, bit_setFlag, reduceCtorEq, if_true, if_false]
  simp

/-- Bit 7 says that the byte is 128 at least. -/
theorem signBit_eq (r : Byte) : signBit r = decide (128 ≤ r.toNat) := by
  revert r
  decide

end Sys2Proof.Machine
end

