-- ==== Sys2Proof/Laws/Meanings.lean ====
section
/-! SUPPORT. One lemma per shared operation of the meanings: everything it can do. A meaning of Machine/<Family>.lean is
one of these operations on its operands, so a statement about it follows by one citation. -/

namespace Sys2Proof.Machine

/-! ### Loads, stores, stack -/

theorem loadReg_spec (r : Reg8) (v : Byte) (s : State) :
    ∃ t, loadReg r v s = .next t ∧ t.reg r = v ∧ OnlyRegs [r] s t :=
  ⟨_, rfl, by cases r <;> rfl, onlyRegs_setReg s r v⟩

theorem storeByte_spec (a : Word) (v : Byte) (s : State) :
    ∃ t, storeByte a v s = .next t ∧ t.readByte a = v ∧ OnlyMem [a] s t :=
  ⟨_, rfl, State.readByte_writeByte_same s a v, onlyMem_writeByte s a v⟩

theorem storeWord_spec (a v : Word) (s : State) :
    ∃ t, storeWord a v s = .next t ∧ WordAt t a v ∧ OnlyMem [a, a + 1] s t :=
  ⟨_, rfl, wordAt_writeWord s a v, onlyMem_writeWord s a v⟩

theorem loadReg16_spec (r : Reg16) (v : Word) (s : State) (h : r ≠ .af) :
    ∃ t, loadReg16 r v s = .next t ∧ t.reg16 r = v ∧ RegsSame (halves r) s t ∧ WideSame [r] s t ∧ FlagsSame s t ∧
      t.pc = s.pc ∧ MemSameBut [] s t ∧ SideSame s t :=
  ⟨_, rfl, State.reg16_setReg16_same s r v, setReg16_frame s r v h⟩

theorem pushReg16_spec (r : Reg16) (s : State) :
    ∃ t, pushReg16 r s = .next t ∧ t.sp = s.sp - 2 ∧ WordAt t (s.sp - 2) (s.reg16 r) ∧ OnlyPcSpAndStack s t ∧
      t.pc = s.pc :=
  ⟨_, rfl, push16_frame s (s.reg16 r)⟩

theorem popReg16_spec (r : Reg16) (s : State) (h : r ≠ .sp) :
    ∃ t, popReg16 r s = .next t ∧ t.reg16 r = wordAt s s.sp ∧ t.sp = s.sp + 2 ∧ RegsSame (halves r) s t ∧
      WideSame [r, .sp] s t ∧ (r ≠ .af → t.f = s.f) ∧ t.draws = s.draws ∧ t.pc = s.pc ∧ MemSameBut [] s t ∧
      SideSame s t := by
  refine ⟨_, rfl, (State.reg16_setReg16_same ..).trans (readWord_eq s s.sp), ?_, ?_, ?_, ?_, ?_, ?_, ?_, ?_⟩
  · cases r <;> first | rfl | exact absurd rfl h
  · intro q hq
    cases r <;> cases q <;> first | rfl | exact absurd (by simp [halves]) hq
  · intro q hm hq
    cases r <;> cases q <;> first | exact absurd hm (by decide) | exact absurd (by decide) hq | rfl
  · intro hr
    cases r <;> first | rfl | exact absurd rfl hr
  all_goals cases r <;> first | rfl | exact fun _ _ => rfl | exact ⟨rfl, rfl, rfl, rfl, rfl, rfl, rfl, rfl⟩

/-! ### Arithmetic -/

/-- The new A and F are `aluResult`'s; the Carry it is given is bit 0 of the old F. -/
theorem alu_spec (op : AluOp) (v : Byte) (s : State) :
    ∃ t, alu op v s = .next t ∧ (t.a, t.f) = aluResult op s.a v (s.f.getLsbD 0) ∧ OnlyRegsAndF [.a] s t := by
  refine ⟨_, rfl, ?_, onlyRegsAndF_setReg_setF s .a _ _⟩
  rw [State.flag, getFlag_eq_bit]
  rfl

theorem negateA_spec (s : State) :
    ∃ t, negateA s = .next t ∧ (t.a, t.f) = sub8 0 s.a false ∧ OnlyRegsAndF [.a] s t :=
  ⟨_, rfl, rfl, onlyRegsAndF_setReg_setF s .a _ _⟩

/-- A write of a 16-bit register other than AF and of F, some bits of which are then unsettled. -/
theorem setReg16_setF_settle_frame (s : State) (r : Reg16) (v : Word) (f m : Byte) (h : r ≠ .af) :
    ∃ t, t = ((s.setReg16 r v).setF f).settle m ∧ t.reg16 r = v ∧ Unsettled m f s t ∧ RegsSame (halves r) s t ∧
      WideSame [r] s t ∧ t.pc = s.pc ∧ MemSameBut [] s t ∧ SideSame s t := by
  obtain ⟨h1, h2, -, -, h5, h6⟩ := setReg16_frame s r v h
  refine ⟨_, rfl, ?_, ?_, fun q hq => ?_, fun q hm hq => ?_, ?_, fun a ha => ?_, ?_⟩
  · rw [settle_reg16 _ _ _ h]
    have e := State.reg16_setReg16_same s r v
    cases r <;> first | exact e | exact absurd rfl h
  · exact unsettled_settle (t := (s.setReg16 r v).setF f) m (by simp) (by simp)
  · rw [settle_reg, ← h1 q hq]
    cases q <;> rfl
  · have hf : q ≠ .af := fun e => by simp [e] at hm
    rw [settle_reg16 _ _ _ hf, ← h2 q hm hq]
    cases q <;> first | rfl | exact absurd rfl hf
  · simp
  · rw [settle_readByte]
    exact h5 a ha
  · unfold State.settle
    split <;> exact h6

theorem addInto_spec (dst src : Reg16) (s : State) (h : dst ≠ .af) :
    ∃ t, addInto dst src s = .next t ∧ t.reg16 dst = (add16 (s.reg16 dst) (s.reg16 src) s.f).1 ∧
      Unsettled unsettledAdd16 (add16 (s.reg16 dst) (s.reg16 src) s.f).2 s t ∧ RegsSame (halves dst) s t ∧
      WideSame [dst] s t ∧ t.pc = s.pc ∧ MemSameBut [] s t ∧ SideSame s t := by
  obtain ⟨t, rfl, ht⟩ := setReg16_setF_settle_frame s dst (add16 (s.reg16 dst) (s.reg16 src) s.f).1
    (add16 (s.reg16 dst) (s.reg16 src) s.f).2 unsettledAdd16 h
  exact ⟨_, rfl, ht⟩

/-- Writing F with its own value changes nothing. -/
theorem setReg16_setF_self (s : State) (r : Reg16) (v : Word) (h : r ≠ .af) :
    (s.setReg16 r v).setF s.f = s.setReg16 r v := by
  cases r <;> first | rfl | exact absurd rfl h

theorem incReg16_spec (r : Reg16) (s : State) (h : r ≠ .af) :
    ∃ t, incReg16 r s = .next t ∧ t.reg16 r = s.reg16 r + 1 ∧ Unsettled unsettledInc16 s.f s t ∧
      RegsSame (halves r) s t ∧ WideSame [r] s t ∧ t.pc = s.pc ∧ MemSameBut [] s t ∧ SideSame s t := by
  obtain ⟨t, e, ht⟩ := setReg16_setF_settle_frame s r (s.reg16 r + 1) s.f unsettledInc16 h
  rw [setReg16_setF_self s r _ h] at e
  exact ⟨t, by rw [e]; rfl, ht⟩

theorem decReg16_spec (r : Reg16) (s : State) (h : r ≠ .af) :
    ∃ t, decReg16 r s = .next t ∧ t.reg16 r = s.reg16 r - 1 ∧ Unsettled unsettledInc16 s.f s t ∧
      RegsSame (halves r) s t ∧ WideSame [r] s t ∧ t.pc = s.pc ∧ MemSameBut [] s t ∧ SideSame s t := by
  obtain ⟨t, e, ht⟩ := setReg16_setF_settle_frame s r (s.reg16 r - 1) s.f unsettledInc16 h
  rw [setReg16_setF_self s r _ h] at e
  exact ⟨t, by rw [e]; rfl, ht⟩

/-- A write of one register and of F, some bits of which are then unsettled. -/
theorem setReg_setF_settle_frame (s : State) (r : Reg8) (v f m : Byte) :
    ∃ t, t = ((s.setReg r v).setF f).settle m ∧ t.reg r = v ∧ Unsettled m f s t ∧ RegsSame [r] s t ∧
      WideSame [] s t ∧ t.pc = s.pc ∧ MemSameBut [] s t ∧ SideSame s t := by
  obtain ⟨h1, h2, -, -, h5, h6⟩ := onlyRegsAndF_setReg_setF s r v f
  refine ⟨_, rfl, ?_, ?_, fun q hq => ?_, fun q hm hq => ?_, ?_, fun a ha => ?_, ?_⟩
  · rw [settle_reg]
    cases r <;> rfl
  · exact unsettled_settle (t := (s.setReg r v).setF f) m (by simp) (by simp)
  · rw [settle_reg]
    exact h1 q hq
  · have hf : q ≠ .af := fun e => by simp [e] at hm
    rw [settle_reg16 _ _ _ hf]
    exact h2 q hm hq
  · simp
  · rw [settle_readByte]
    exact h5 a ha
  · unfold State.settle
    split <;> exact h6

theorem incReg_spec (r : Reg8) (s : State) :
    ∃ t, incReg r s = .next t ∧ t.reg r = s.reg r + 1 ∧ Unsettled unsettledInc8 (incFlags s.f (s.reg r + 1)) s t ∧
      RegsSame [r] s t ∧ WideSame [] s t ∧ t.pc = s.pc ∧ MemSameBut [] s t ∧ SideSame s t := by
  obtain ⟨t, rfl, ht⟩ := setReg_setF_settle_frame s r (s.reg r + 1) (incFlags s.f (s.reg r + 1)) unsettledInc8
  exact ⟨_, rfl, ht⟩

theorem decReg_spec (r : Reg8) (s : State) :
    ∃ t, decReg r s = .next t ∧ t.reg r = s.reg r - 1 ∧ Unsettled unsettledDec8 (decFlags s.f (s.reg r - 1)) s t ∧
      RegsSame [r] s t ∧ WideSame [] s t ∧ t.pc = s.pc ∧ MemSameBut [] s t ∧ SideSame s t := by
  obtain ⟨t, rfl, ht⟩ := setReg_setF_settle_frame s r (s.reg r - 1) (decFlags s.f (s.reg r - 1)) unsettledDec8
  exact ⟨_, rfl, ht⟩

/-- A write of one byte and of F, some bits of which are then unsettled. -/
theorem writeByte_setF_settle_frame (s : State) (a : Word) (v f m : Byte) :
    ∃ t, t = ((s.writeByte a v).setF f).settle m ∧ t.readByte a = v ∧ Unsettled m f s t ∧ RegsSame [] s t ∧
      WideSame [] s t ∧ t.pc = s.pc ∧ MemSameBut [a] s t ∧ SideSame s t := by
  obtain ⟨h1, h2, -, -, h5, h6⟩ := onlyMem_writeByte s a v
  refine ⟨_, rfl, ?_, ?_, fun q hq => ?_, fun q hm hq => ?_, ?_, fun b hb => ?_, ?_⟩
  · rw [settle_readByte]
    exact State.readByte_writeByte_same s a v
  · exact unsettled_settle (t := (s.writeByte a v).setF f) m (by simp) (by simp)
  · rw [settle_reg, ← h1 q hq]
    cases q <;> rfl
  · have hf : q ≠ .af := fun e => by simp [e] at hm
    rw [settle_reg16 _ _ _ hf, ← h2 q hm hq]
    cases q <;> first | rfl | exact absurd rfl hf
  · simp
  · rw [settle_readByte]
    exact h5 b hb
  · unfold State.settle
    split <;> exact h6

theorem incMem_spec (s : State) :
    ∃ t, incMem s = .next t ∧ t.readByte s.hl = s.atHL + 1 ∧ Unsettled unsettledInc8 (incFlags s.f (s.atHL + 1)) s t ∧
      RegsSame [] s t ∧ WideSame [] s t ∧ t.pc = s.pc ∧ MemSameBut [s.hl] s t ∧ SideSame s t := by
  obtain ⟨t, rfl, ht⟩ :=
    writeByte_setF_settle_frame s s.hl (s.atHL + 1) (incFlags s.f (s.atHL + 1)) unsettledInc8
  exact ⟨_, rfl, ht⟩

theorem decMem_spec (s : State) :
    ∃ t, decMem s = .next t ∧ t.readByte s.hl = s.atHL - 1 ∧ Unsettled unsettledDec8 (decFlags s.f (s.atHL - 1)) s t ∧
      RegsSame [] s t ∧ WideSame [] s t ∧ t.pc = s.pc ∧ MemSameBut [s.hl] s t ∧ SideSame s t := by
  obtain ⟨t, rfl, ht⟩ :=
    writeByte_setF_settle_frame s s.hl (s.atHL - 1) (decFlags s.f (s.atHL - 1)) unsettledDec8
  exact ⟨_, rfl, ht⟩

theorem rotateA_spec (op : RotOp) (s : State) :
    ∃ t, rotateA op s = .next t ∧ t.a = (rotated op s.a (s.f.getLsbD 0)).1 ∧
      t.f = setFlag s.f .c (rotated op s.a (s.f.getLsbD 0)).2 ∧ OnlyRegsAndF [.a] s t := by
  refine ⟨_, rfl, ?_, ?_, onlyRegsAndF_setReg_setF s .a _ _⟩ <;> rw [State.flag, getFlag_eq_bit] <;> rfl

/-! ### Control transfer -/

theorem jump_spec (a : Word) (s : State) : ∃ t, jump a s = .next t ∧ t.pc = a ∧ OnlyPc s t :=
  ⟨_, rfl, rfl, onlyPc_setPc s a⟩

theorem call_spec (a : Word) (s : State) :
    ∃ t, call a s = .next t ∧ t.pc = a ∧ t.sp = s.sp - 2 ∧ WordAt t (s.sp - 2) s.pc ∧ OnlyPcSpAndStack s t := by
  obtain ⟨h1, h2, ⟨r, w, f, m, d⟩, -⟩ := push16_frame s s.pc
  refine ⟨_, rfl, rfl, h1, h2, fun q hq => ?_, fun q hm hq => ?_, f, m, d⟩
  · rw [← r q hq]
    cases q <;> rfl
  · rw [← w q hm hq]
    cases q <;> rfl

theorem ret_spec (s : State) :
    ∃ t, ret s = .next t ∧ t.pc = wordAt s s.sp ∧ t.sp = s.sp + 2 ∧ RegsSame [] s t ∧ WideSame [.sp] s t ∧
      FlagsSame s t ∧ MemSameBut [] s t ∧ SideSame s t :=
  ⟨_, rfl, popPc_frame s⟩

/-! ### The bit-operations page -/

theorem testBit_spec (b : Fin 8) (v : Byte) (s : State) :
    ∃ t, testBit b v s = .next t ∧ t.f = setFlag (setFlag s.f .z (!v.getLsbD b.val)) .h true ∧
      OnlyRegsAndF [] s t :=
  ⟨_, rfl, rfl, onlyRegsAndF_setF s _⟩

theorem shiftReg_spec (r : Reg8) (s : State) :
    ∃ t, shiftReg r s = .next t ∧ t.reg r = s.reg r >>> 1 ∧ t.f = srlFlags (s.reg r >>> 1) ((s.reg r).getLsbD 0) ∧
      OnlyRegsAndF [r] s t :=
  ⟨_, rfl, by cases r <;> rfl, rfl, onlyRegsAndF_setReg_setF s r _ _⟩

end Sys2Proof.Machine
end

