-- ==== Sys2Proof/Laws/PerInstr.lean ====
section
/-! SUPPORT. One lemma per constructor of Instr, about the instruction as syntax. -/

namespace Sys2Proof

/-- The encoding of an instruction is as long as the table of 30_encoding.md R154 says of its first two bytes. -/
def Laws.EncodedLength.Statement (i : Instr) : Prop :=
  (encode i).length = lengthOf ((encode i).getD 0 0) ((encode i).getD 1 0)

theorem Laws.EncodedLength.nop : Laws.EncodedLength.Statement (.nop) := rfl
theorem Laws.EncodedLength.ld_b_b : Laws.EncodedLength.Statement (.ld_b_b) := rfl
theorem Laws.EncodedLength.ld_b_c : Laws.EncodedLength.Statement (.ld_b_c) := rfl
theorem Laws.EncodedLength.ld_b_d : Laws.EncodedLength.Statement (.ld_b_d) := rfl
theorem Laws.EncodedLength.ld_b_e : Laws.EncodedLength.Statement (.ld_b_e) := rfl
theorem Laws.EncodedLength.ld_b_h : Laws.EncodedLength.Statement (.ld_b_h) := rfl
theorem Laws.EncodedLength.ld_b_l : Laws.EncodedLength.Statement (.ld_b_l) := rfl
theorem Laws.EncodedLength.ld_b_atHL : Laws.EncodedLength.Statement (.ld_b_atHL) := rfl
theorem Laws.EncodedLength.ld_b_a : Laws.EncodedLength.Statement (.ld_b_a) := rfl
theorem Laws.EncodedLength.ld_c_b : Laws.EncodedLength.Statement (.ld_c_b) := rfl
theorem Laws.EncodedLength.ld_c_c : Laws.EncodedLength.Statement (.ld_c_c) := rfl
theorem Laws.EncodedLength.ld_c_d : Laws.EncodedLength.Statement (.ld_c_d) := rfl
theorem Laws.EncodedLength.ld_c_e : Laws.EncodedLength.Statement (.ld_c_e) := rfl
theorem Laws.EncodedLength.ld_c_h : Laws.EncodedLength.Statement (.ld_c_h) := rfl
theorem Laws.EncodedLength.ld_c_l : Laws.EncodedLength.Statement (.ld_c_l) := rfl
theorem Laws.EncodedLength.ld_c_atHL : Laws.EncodedLength.Statement (.ld_c_atHL) := rfl
theorem Laws.EncodedLength.ld_c_a : Laws.EncodedLength.Statement (.ld_c_a) := rfl
theorem Laws.EncodedLength.ld_d_b : Laws.EncodedLength.Statement (.ld_d_b) := rfl
theorem Laws.EncodedLength.ld_d_c : Laws.EncodedLength.Statement (.ld_d_c) := rfl
theorem Laws.EncodedLength.ld_d_d : Laws.EncodedLength.Statement (.ld_d_d) := rfl
theorem Laws.EncodedLength.ld_d_e : Laws.EncodedLength.Statement (.ld_d_e) := rfl
theorem Laws.EncodedLength.ld_d_h : Laws.EncodedLength.Statement (.ld_d_h) := rfl
theorem Laws.EncodedLength.ld_d_l : Laws.EncodedLength.Statement (.ld_d_l) := rfl
theorem Laws.EncodedLength.ld_d_atHL : Laws.EncodedLength.Statement (.ld_d_atHL) := rfl
theorem Laws.EncodedLength.ld_d_a : Laws.EncodedLength.Statement (.ld_d_a) := rfl
theorem Laws.EncodedLength.ld_e_b : Laws.EncodedLength.Statement (.ld_e_b) := rfl
theorem Laws.EncodedLength.ld_e_c : Laws.EncodedLength.Statement (.ld_e_c) := rfl
theorem Laws.EncodedLength.ld_e_d : Laws.EncodedLength.Statement (.ld_e_d) := rfl
theorem Laws.EncodedLength.ld_e_e : Laws.EncodedLength.Statement (.ld_e_e) := rfl
theorem Laws.EncodedLength.ld_e_h : Laws.EncodedLength.Statement (.ld_e_h) := rfl
theorem Laws.EncodedLength.ld_e_l : Laws.EncodedLength.Statement (.ld_e_l) := rfl
theorem Laws.EncodedLength.ld_e_atHL : Laws.EncodedLength.Statement (.ld_e_atHL) := rfl
theorem Laws.EncodedLength.ld_e_a : Laws.EncodedLength.Statement (.ld_e_a) := rfl
theorem Laws.EncodedLength.ld_h_b : Laws.EncodedLength.Statement (.ld_h_b) := rfl
theorem Laws.EncodedLength.ld_h_c : Laws.EncodedLength.Statement (.ld_h_c) := rfl
theorem Laws.EncodedLength.ld_h_d : Laws.EncodedLength.Statement (.ld_h_d) := rfl
theorem Laws.EncodedLength.ld_h_e : Laws.EncodedLength.Statement (.ld_h_e) := rfl
theorem Laws.EncodedLength.ld_h_h : Laws.EncodedLength.Statement (.ld_h_h) := rfl
theorem Laws.EncodedLength.ld_h_l : Laws.EncodedLength.Statement (.ld_h_l) := rfl
theorem Laws.EncodedLength.ld_h_atHL : Laws.EncodedLength.Statement (.ld_h_atHL) := rfl
theorem Laws.EncodedLength.ld_h_a : Laws.EncodedLength.Statement (.ld_h_a) := rfl
theorem Laws.EncodedLength.ld_l_b : Laws.EncodedLength.Statement (.ld_l_b) := rfl
theorem Laws.EncodedLength.ld_l_c : Laws.EncodedLength.Statement (.ld_l_c) := rfl
theorem Laws.EncodedLength.ld_l_d : Laws.EncodedLength.Statement (.ld_l_d) := rfl
theorem Laws.EncodedLength.ld_l_e : Laws.EncodedLength.Statement (.ld_l_e) := rfl
theorem Laws.EncodedLength.ld_l_h : Laws.EncodedLength.Statement (.ld_l_h) := rfl
theorem Laws.EncodedLength.ld_l_l : Laws.EncodedLength.Statement (.ld_l_l) := rfl
theorem Laws.EncodedLength.ld_l_atHL : Laws.EncodedLength.Statement (.ld_l_atHL) := rfl
theorem Laws.EncodedLength.ld_l_a : Laws.EncodedLength.Statement (.ld_l_a) := rfl
theorem Laws.EncodedLength.ld_atHL_b : Laws.EncodedLength.Statement (.ld_atHL_b) := rfl
theorem Laws.EncodedLength.ld_atHL_c : Laws.EncodedLength.Statement (.ld_atHL_c) := rfl
theorem Laws.EncodedLength.ld_atHL_d : Laws.EncodedLength.Statement (.ld_atHL_d) := rfl
theorem Laws.EncodedLength.ld_atHL_e : Laws.EncodedLength.Statement (.ld_atHL_e) := rfl
theorem Laws.EncodedLength.ld_atHL_h : Laws.EncodedLength.Statement (.ld_atHL_h) := rfl
theorem Laws.EncodedLength.ld_atHL_l : Laws.EncodedLength.Statement (.ld_atHL_l) := rfl
theorem Laws.EncodedLength.ld_atHL_a : Laws.EncodedLength.Statement (.ld_atHL_a) := rfl
theorem Laws.EncodedLength.ld_a_b : Laws.EncodedLength.Statement (.ld_a_b) := rfl
theorem Laws.EncodedLength.ld_a_c : Laws.EncodedLength.Statement (.ld_a_c) := rfl
theorem Laws.EncodedLength.ld_a_d : Laws.EncodedLength.Statement (.ld_a_d) := rfl
theorem Laws.EncodedLength.ld_a_e : Laws.EncodedLength.Statement (.ld_a_e) := rfl
theorem Laws.EncodedLength.ld_a_h : Laws.EncodedLength.Statement (.ld_a_h) := rfl
theorem Laws.EncodedLength.ld_a_l : Laws.EncodedLength.Statement (.ld_a_l) := rfl
theorem Laws.EncodedLength.ld_a_atHL : Laws.EncodedLength.Statement (.ld_a_atHL) := rfl
theorem Laws.EncodedLength.ld_a_a : Laws.EncodedLength.Statement (.ld_a_a) := rfl
theorem Laws.EncodedLength.ld_b_n (n : Byte) : Laws.EncodedLength.Statement (.ld_b_n n) := rfl
theorem Laws.EncodedLength.ld_c_n (n : Byte) : Laws.EncodedLength.Statement (.ld_c_n n) := rfl
theorem Laws.EncodedLength.ld_d_n (n : Byte) : Laws.EncodedLength.Statement (.ld_d_n n) := rfl
theorem Laws.EncodedLength.ld_e_n (n : Byte) : Laws.EncodedLength.Statement (.ld_e_n n) := rfl
theorem Laws.EncodedLength.ld_h_n (n : Byte) : Laws.EncodedLength.Statement (.ld_h_n n) := rfl
theorem Laws.EncodedLength.ld_l_n (n : Byte) : Laws.EncodedLength.Statement (.ld_l_n n) := rfl
theorem Laws.EncodedLength.ld_atHL_n (n : Byte) : Laws.EncodedLength.Statement (.ld_atHL_n n) := rfl
theorem Laws.EncodedLength.ld_a_n (n : Byte) : Laws.EncodedLength.Statement (.ld_a_n n) := rfl
theorem Laws.EncodedLength.ld_bc_nn (nn : Word) : Laws.EncodedLength.Statement (.ld_bc_nn nn) := rfl
theorem Laws.EncodedLength.ld_de_nn (nn : Word) : Laws.EncodedLength.Statement (.ld_de_nn nn) := rfl
theorem Laws.EncodedLength.ld_hl_nn (nn : Word) : Laws.EncodedLength.Statement (.ld_hl_nn nn) := rfl
theorem Laws.EncodedLength.ld_sp_nn (nn : Word) : Laws.EncodedLength.Statement (.ld_sp_nn nn) := rfl
theorem Laws.EncodedLength.ld_a_atBC : Laws.EncodedLength.Statement (.ld_a_atBC) := rfl
theorem Laws.EncodedLength.ld_a_atDE : Laws.EncodedLength.Statement (.ld_a_atDE) := rfl
theorem Laws.EncodedLength.ld_atBC_a : Laws.EncodedLength.Statement (.ld_atBC_a) := rfl
theorem Laws.EncodedLength.ld_atDE_a : Laws.EncodedLength.Statement (.ld_atDE_a) := rfl
theorem Laws.EncodedLength.ld_a_atNN (nn : Word) : Laws.EncodedLength.Statement (.ld_a_atNN nn) := rfl
theorem Laws.EncodedLength.ld_atNN_a (nn : Word) : Laws.EncodedLength.Statement (.ld_atNN_a nn) := rfl
theorem Laws.EncodedLength.ld_hl_atNN (nn : Word) : Laws.EncodedLength.Statement (.ld_hl_atNN nn) := rfl
theorem Laws.EncodedLength.ld_atNN_hl (nn : Word) : Laws.EncodedLength.Statement (.ld_atNN_hl nn) := rfl
theorem Laws.EncodedLength.push_bc : Laws.EncodedLength.Statement (.push_bc) := rfl
theorem Laws.EncodedLength.push_de : Laws.EncodedLength.Statement (.push_de) := rfl
theorem Laws.EncodedLength.push_hl : Laws.EncodedLength.Statement (.push_hl) := rfl
theorem Laws.EncodedLength.push_af : Laws.EncodedLength.Statement (.push_af) := rfl
theorem Laws.EncodedLength.pop_bc : Laws.EncodedLength.Statement (.pop_bc) := rfl
theorem Laws.EncodedLength.pop_de : Laws.EncodedLength.Statement (.pop_de) := rfl
theorem Laws.EncodedLength.pop_hl : Laws.EncodedLength.Statement (.pop_hl) := rfl
theorem Laws.EncodedLength.pop_af : Laws.EncodedLength.Statement (.pop_af) := rfl
theorem Laws.EncodedLength.ex_de_hl : Laws.EncodedLength.Statement (.ex_de_hl) := rfl
theorem Laws.EncodedLength.add_a_b : Laws.EncodedLength.Statement (.add_a_b) := rfl
theorem Laws.EncodedLength.add_a_c : Laws.EncodedLength.Statement (.add_a_c) := rfl
theorem Laws.EncodedLength.add_a_d : Laws.EncodedLength.Statement (.add_a_d) := rfl
theorem Laws.EncodedLength.add_a_e : Laws.EncodedLength.Statement (.add_a_e) := rfl
theorem Laws.EncodedLength.add_a_h : Laws.EncodedLength.Statement (.add_a_h) := rfl
theorem Laws.EncodedLength.add_a_l : Laws.EncodedLength.Statement (.add_a_l) := rfl
theorem Laws.EncodedLength.add_a_atHL : Laws.EncodedLength.Statement (.add_a_atHL) := rfl
theorem Laws.EncodedLength.add_a_a : Laws.EncodedLength.Statement (.add_a_a) := rfl
theorem Laws.EncodedLength.adc_a_b : Laws.EncodedLength.Statement (.adc_a_b) := rfl
theorem Laws.EncodedLength.adc_a_c : Laws.EncodedLength.Statement (.adc_a_c) := rfl
theorem Laws.EncodedLength.adc_a_d : Laws.EncodedLength.Statement (.adc_a_d) := rfl
theorem Laws.EncodedLength.adc_a_e : Laws.EncodedLength.Statement (.adc_a_e) := rfl
theorem Laws.EncodedLength.adc_a_h : Laws.EncodedLength.Statement (.adc_a_h) := rfl
theorem Laws.EncodedLength.adc_a_l : Laws.EncodedLength.Statement (.adc_a_l) := rfl
theorem Laws.EncodedLength.adc_a_atHL : Laws.EncodedLength.Statement (.adc_a_atHL) := rfl
theorem Laws.EncodedLength.adc_a_a : Laws.EncodedLength.Statement (.adc_a_a) := rfl
theorem Laws.EncodedLength.sub_b : Laws.EncodedLength.Statement (.sub_b) := rfl
theorem Laws.EncodedLength.sub_c : Laws.EncodedLength.Statement (.sub_c) := rfl
theorem Laws.EncodedLength.sub_d : Laws.EncodedLength.Statement (.sub_d) := rfl
theorem Laws.EncodedLength.sub_e : Laws.EncodedLength.Statement (.sub_e) := rfl
theorem Laws.EncodedLength.sub_h : Laws.EncodedLength.Statement (.sub_h) := rfl
theorem Laws.EncodedLength.sub_l : Laws.EncodedLength.Statement (.sub_l) := rfl
theorem Laws.EncodedLength.sub_atHL : Laws.EncodedLength.Statement (.sub_atHL) := rfl
theorem Laws.EncodedLength.sub_a : Laws.EncodedLength.Statement (.sub_a) := rfl
theorem Laws.EncodedLength.sbc_a_b : Laws.EncodedLength.Statement (.sbc_a_b) := rfl
theorem Laws.EncodedLength.sbc_a_c : Laws.EncodedLength.Statement (.sbc_a_c) := rfl
theorem Laws.EncodedLength.sbc_a_d : Laws.EncodedLength.Statement (.sbc_a_d) := rfl
theorem Laws.EncodedLength.sbc_a_e : Laws.EncodedLength.Statement (.sbc_a_e) := rfl
theorem Laws.EncodedLength.sbc_a_h : Laws.EncodedLength.Statement (.sbc_a_h) := rfl
theorem Laws.EncodedLength.sbc_a_l : Laws.EncodedLength.Statement (.sbc_a_l) := rfl
theorem Laws.EncodedLength.sbc_a_atHL : Laws.EncodedLength.Statement (.sbc_a_atHL) := rfl
theorem Laws.EncodedLength.sbc_a_a : Laws.EncodedLength.Statement (.sbc_a_a) := rfl
theorem Laws.EncodedLength.and_b : Laws.EncodedLength.Statement (.and_b) := rfl
theorem Laws.EncodedLength.and_c : Laws.EncodedLength.Statement (.and_c) := rfl
theorem Laws.EncodedLength.and_d : Laws.EncodedLength.Statement (.and_d) := rfl
theorem Laws.EncodedLength.and_e : Laws.EncodedLength.Statement (.and_e) := rfl
theorem Laws.EncodedLength.and_h : Laws.EncodedLength.Statement (.and_h) := rfl
theorem Laws.EncodedLength.and_l : Laws.EncodedLength.Statement (.and_l) := rfl
theorem Laws.EncodedLength.and_atHL : Laws.EncodedLength.Statement (.and_atHL) := rfl
theorem Laws.EncodedLength.and_a : Laws.EncodedLength.Statement (.and_a) := rfl
theorem Laws.EncodedLength.xor_b : Laws.EncodedLength.Statement (.xor_b) := rfl
theorem Laws.EncodedLength.xor_c : Laws.EncodedLength.Statement (.xor_c) := rfl
theorem Laws.EncodedLength.xor_d : Laws.EncodedLength.Statement (.xor_d) := rfl
theorem Laws.EncodedLength.xor_e : Laws.EncodedLength.Statement (.xor_e) := rfl
theorem Laws.EncodedLength.xor_h : Laws.EncodedLength.Statement (.xor_h) := rfl
theorem Laws.EncodedLength.xor_l : Laws.EncodedLength.Statement (.xor_l) := rfl
theorem Laws.EncodedLength.xor_atHL : Laws.EncodedLength.Statement (.xor_atHL) := rfl
theorem Laws.EncodedLength.xor_a : Laws.EncodedLength.Statement (.xor_a) := rfl
theorem Laws.EncodedLength.or_b : Laws.EncodedLength.Statement (.or_b) := rfl
theorem Laws.EncodedLength.or_c : Laws.EncodedLength.Statement (.or_c) := rfl
theorem Laws.EncodedLength.or_d : Laws.EncodedLength.Statement (.or_d) := rfl
theorem Laws.EncodedLength.or_e : Laws.EncodedLength.Statement (.or_e) := rfl
theorem Laws.EncodedLength.or_h : Laws.EncodedLength.Statement (.or_h) := rfl
theorem Laws.EncodedLength.or_l : Laws.EncodedLength.Statement (.or_l) := rfl
theorem Laws.EncodedLength.or_atHL : Laws.EncodedLength.Statement (.or_atHL) := rfl
theorem Laws.EncodedLength.or_a : Laws.EncodedLength.Statement (.or_a) := rfl
theorem Laws.EncodedLength.cp_b : Laws.EncodedLength.Statement (.cp_b) := rfl
theorem Laws.EncodedLength.cp_c : Laws.EncodedLength.Statement (.cp_c) := rfl
theorem Laws.EncodedLength.cp_d : Laws.EncodedLength.Statement (.cp_d) := rfl
theorem Laws.EncodedLength.cp_e : Laws.EncodedLength.Statement (.cp_e) := rfl
theorem Laws.EncodedLength.cp_h : Laws.EncodedLength.Statement (.cp_h) := rfl
theorem Laws.EncodedLength.cp_l : Laws.EncodedLength.Statement (.cp_l) := rfl
theorem Laws.EncodedLength.cp_atHL : Laws.EncodedLength.Statement (.cp_atHL) := rfl
theorem Laws.EncodedLength.cp_a : Laws.EncodedLength.Statement (.cp_a) := rfl
theorem Laws.EncodedLength.add_a_n (n : Byte) : Laws.EncodedLength.Statement (.add_a_n n) := rfl
theorem Laws.EncodedLength.adc_a_n (n : Byte) : Laws.EncodedLength.Statement (.adc_a_n n) := rfl
theorem Laws.EncodedLength.sub_n (n : Byte) : Laws.EncodedLength.Statement (.sub_n n) := rfl
theorem Laws.EncodedLength.sbc_a_n (n : Byte) : Laws.EncodedLength.Statement (.sbc_a_n n) := rfl
theorem Laws.EncodedLength.and_n (n : Byte) : Laws.EncodedLength.Statement (.and_n n) := rfl
theorem Laws.EncodedLength.xor_n (n : Byte) : Laws.EncodedLength.Statement (.xor_n n) := rfl
theorem Laws.EncodedLength.or_n (n : Byte) : Laws.EncodedLength.Statement (.or_n n) := rfl
theorem Laws.EncodedLength.cp_n (n : Byte) : Laws.EncodedLength.Statement (.cp_n n) := rfl
theorem Laws.EncodedLength.add_hl_bc : Laws.EncodedLength.Statement (.add_hl_bc) := rfl
theorem Laws.EncodedLength.add_hl_de : Laws.EncodedLength.Statement (.add_hl_de) := rfl
theorem Laws.EncodedLength.add_hl_hl : Laws.EncodedLength.Statement (.add_hl_hl) := rfl
theorem Laws.EncodedLength.add_hl_sp : Laws.EncodedLength.Statement (.add_hl_sp) := rfl
theorem Laws.EncodedLength.inc_b : Laws.EncodedLength.Statement (.inc_b) := rfl
theorem Laws.EncodedLength.dec_b : Laws.EncodedLength.Statement (.dec_b) := rfl
theorem Laws.EncodedLength.inc_c : Laws.EncodedLength.Statement (.inc_c) := rfl
theorem Laws.EncodedLength.dec_c : Laws.EncodedLength.Statement (.dec_c) := rfl
theorem Laws.EncodedLength.inc_d : Laws.EncodedLength.Statement (.inc_d) := rfl
theorem Laws.EncodedLength.dec_d : Laws.EncodedLength.Statement (.dec_d) := rfl
theorem Laws.EncodedLength.inc_e : Laws.EncodedLength.Statement (.inc_e) := rfl
theorem Laws.EncodedLength.dec_e : Laws.EncodedLength.Statement (.dec_e) := rfl
theorem Laws.EncodedLength.inc_h : Laws.EncodedLength.Statement (.inc_h) := rfl
theorem Laws.EncodedLength.dec_h : Laws.EncodedLength.Statement (.dec_h) := rfl
theorem Laws.EncodedLength.inc_l : Laws.EncodedLength.Statement (.inc_l) := rfl
theorem Laws.EncodedLength.dec_l : Laws.EncodedLength.Statement (.dec_l) := rfl
theorem Laws.EncodedLength.inc_atHL : Laws.EncodedLength.Statement (.inc_atHL) := rfl
theorem Laws.EncodedLength.dec_atHL : Laws.EncodedLength.Statement (.dec_atHL) := rfl
theorem Laws.EncodedLength.inc_a : Laws.EncodedLength.Statement (.inc_a) := rfl
theorem Laws.EncodedLength.dec_a : Laws.EncodedLength.Statement (.dec_a) := rfl
theorem Laws.EncodedLength.inc_bc : Laws.EncodedLength.Statement (.inc_bc) := rfl
theorem Laws.EncodedLength.dec_bc : Laws.EncodedLength.Statement (.dec_bc) := rfl
theorem Laws.EncodedLength.inc_de : Laws.EncodedLength.Statement (.inc_de) := rfl
theorem Laws.EncodedLength.dec_de : Laws.EncodedLength.Statement (.dec_de) := rfl
theorem Laws.EncodedLength.inc_hl : Laws.EncodedLength.Statement (.inc_hl) := rfl
theorem Laws.EncodedLength.dec_hl : Laws.EncodedLength.Statement (.dec_hl) := rfl
theorem Laws.EncodedLength.inc_sp : Laws.EncodedLength.Statement (.inc_sp) := rfl
theorem Laws.EncodedLength.dec_sp : Laws.EncodedLength.Statement (.dec_sp) := rfl
theorem Laws.EncodedLength.rlca : Laws.EncodedLength.Statement (.rlca) := rfl
theorem Laws.EncodedLength.rrca : Laws.EncodedLength.Statement (.rrca) := rfl
theorem Laws.EncodedLength.rla : Laws.EncodedLength.Statement (.rla) := rfl
theorem Laws.EncodedLength.rra : Laws.EncodedLength.Statement (.rra) := rfl
theorem Laws.EncodedLength.jp_nn (nn : Word) : Laws.EncodedLength.Statement (.jp_nn nn) := rfl
theorem Laws.EncodedLength.jp_nz_nn (nn : Word) : Laws.EncodedLength.Statement (.jp_nz_nn nn) := rfl
theorem Laws.EncodedLength.jp_z_nn (nn : Word) : Laws.EncodedLength.Statement (.jp_z_nn nn) := rfl
theorem Laws.EncodedLength.jp_nc_nn (nn : Word) : Laws.EncodedLength.Statement (.jp_nc_nn nn) := rfl
theorem Laws.EncodedLength.jp_c_nn (nn : Word) : Laws.EncodedLength.Statement (.jp_c_nn nn) := rfl
theorem Laws.EncodedLength.jr_e (e : Byte) : Laws.EncodedLength.Statement (.jr_e e) := rfl
theorem Laws.EncodedLength.jr_nz_e (e : Byte) : Laws.EncodedLength.Statement (.jr_nz_e e) := rfl
theorem Laws.EncodedLength.jr_z_e (e : Byte) : Laws.EncodedLength.Statement (.jr_z_e e) := rfl
theorem Laws.EncodedLength.jr_nc_e (e : Byte) : Laws.EncodedLength.Statement (.jr_nc_e e) := rfl
theorem Laws.EncodedLength.jr_c_e (e : Byte) : Laws.EncodedLength.Statement (.jr_c_e e) := rfl
theorem Laws.EncodedLength.djnz_e (e : Byte) : Laws.EncodedLength.Statement (.djnz_e e) := rfl
theorem Laws.EncodedLength.call_nn (nn : Word) : Laws.EncodedLength.Statement (.call_nn nn) := rfl
theorem Laws.EncodedLength.call_nz_nn (nn : Word) : Laws.EncodedLength.Statement (.call_nz_nn nn) := rfl
theorem Laws.EncodedLength.call_z_nn (nn : Word) : Laws.EncodedLength.Statement (.call_z_nn nn) := rfl
theorem Laws.EncodedLength.call_nc_nn (nn : Word) : Laws.EncodedLength.Statement (.call_nc_nn nn) := rfl
theorem Laws.EncodedLength.call_c_nn (nn : Word) : Laws.EncodedLength.Statement (.call_c_nn nn) := rfl
theorem Laws.EncodedLength.ret : Laws.EncodedLength.Statement (.ret) := rfl
theorem Laws.EncodedLength.ret_nz : Laws.EncodedLength.Statement (.ret_nz) := rfl
theorem Laws.EncodedLength.ret_z : Laws.EncodedLength.Statement (.ret_z) := rfl
theorem Laws.EncodedLength.ret_nc : Laws.EncodedLength.Statement (.ret_nc) := rfl
theorem Laws.EncodedLength.ret_c : Laws.EncodedLength.Statement (.ret_c) := rfl
theorem Laws.EncodedLength.rst_00 : Laws.EncodedLength.Statement (.rst_00) := rfl
theorem Laws.EncodedLength.rst_08 : Laws.EncodedLength.Statement (.rst_08) := rfl
theorem Laws.EncodedLength.rst_10 : Laws.EncodedLength.Statement (.rst_10) := rfl
theorem Laws.EncodedLength.rst_18 : Laws.EncodedLength.Statement (.rst_18) := rfl
theorem Laws.EncodedLength.rst_20 : Laws.EncodedLength.Statement (.rst_20) := rfl
theorem Laws.EncodedLength.rst_28 : Laws.EncodedLength.Statement (.rst_28) := rfl
theorem Laws.EncodedLength.rst_30 : Laws.EncodedLength.Statement (.rst_30) := rfl
theorem Laws.EncodedLength.rst_38 : Laws.EncodedLength.Statement (.rst_38) := rfl
theorem Laws.EncodedLength.scf : Laws.EncodedLength.Statement (.scf) := rfl
theorem Laws.EncodedLength.ccf : Laws.EncodedLength.Statement (.ccf) := rfl
theorem Laws.EncodedLength.cpl : Laws.EncodedLength.Statement (.cpl) := rfl
theorem Laws.EncodedLength.halt : Laws.EncodedLength.Statement (.halt) := rfl
theorem Laws.EncodedLength.srl_b : Laws.EncodedLength.Statement (.srl_b) := rfl
theorem Laws.EncodedLength.srl_c : Laws.EncodedLength.Statement (.srl_c) := rfl
theorem Laws.EncodedLength.srl_d : Laws.EncodedLength.Statement (.srl_d) := rfl
theorem Laws.EncodedLength.srl_e : Laws.EncodedLength.Statement (.srl_e) := rfl
theorem Laws.EncodedLength.srl_h : Laws.EncodedLength.Statement (.srl_h) := rfl
theorem Laws.EncodedLength.srl_l : Laws.EncodedLength.Statement (.srl_l) := rfl
theorem Laws.EncodedLength.srl_atHL : Laws.EncodedLength.Statement (.srl_atHL) := rfl
theorem Laws.EncodedLength.srl_a : Laws.EncodedLength.Statement (.srl_a) := rfl
theorem Laws.EncodedLength.bit_0_b : Laws.EncodedLength.Statement (.bit_0_b) := rfl
theorem Laws.EncodedLength.bit_1_b : Laws.EncodedLength.Statement (.bit_1_b) := rfl
theorem Laws.EncodedLength.bit_2_b : Laws.EncodedLength.Statement (.bit_2_b) := rfl
theorem Laws.EncodedLength.bit_3_b : Laws.EncodedLength.Statement (.bit_3_b) := rfl
theorem Laws.EncodedLength.bit_4_b : Laws.EncodedLength.Statement (.bit_4_b) := rfl
theorem Laws.EncodedLength.bit_5_b : Laws.EncodedLength.Statement (.bit_5_b) := rfl
theorem Laws.EncodedLength.bit_6_b : Laws.EncodedLength.Statement (.bit_6_b) := rfl
theorem Laws.EncodedLength.bit_7_b : Laws.EncodedLength.Statement (.bit_7_b) := rfl
theorem Laws.EncodedLength.bit_0_c : Laws.EncodedLength.Statement (.bit_0_c) := rfl
theorem Laws.EncodedLength.bit_1_c : Laws.EncodedLength.Statement (.bit_1_c) := rfl
theorem Laws.EncodedLength.bit_2_c : Laws.EncodedLength.Statement (.bit_2_c) := rfl
theorem Laws.EncodedLength.bit_3_c : Laws.EncodedLength.Statement (.bit_3_c) := rfl
theorem Laws.EncodedLength.bit_4_c : Laws.EncodedLength.Statement (.bit_4_c) := rfl
theorem Laws.EncodedLength.bit_5_c : Laws.EncodedLength.Statement (.bit_5_c) := rfl
theorem Laws.EncodedLength.bit_6_c : Laws.EncodedLength.Statement (.bit_6_c) := rfl
theorem Laws.EncodedLength.bit_7_c : Laws.EncodedLength.Statement (.bit_7_c) := rfl
theorem Laws.EncodedLength.bit_0_d : Laws.EncodedLength.Statement (.bit_0_d) := rfl
theorem Laws.EncodedLength.bit_1_d : Laws.EncodedLength.Statement (.bit_1_d) := rfl
theorem Laws.EncodedLength.bit_2_d : Laws.EncodedLength.Statement (.bit_2_d) := rfl
theorem Laws.EncodedLength.bit_3_d : Laws.EncodedLength.Statement (.bit_3_d) := rfl
theorem Laws.EncodedLength.bit_4_d : Laws.EncodedLength.Statement (.bit_4_d) := rfl
theorem Laws.EncodedLength.bit_5_d : Laws.EncodedLength.Statement (.bit_5_d) := rfl
theorem Laws.EncodedLength.bit_6_d : Laws.EncodedLength.Statement (.bit_6_d) := rfl
theorem Laws.EncodedLength.bit_7_d : Laws.EncodedLength.Statement (.bit_7_d) := rfl
theorem Laws.EncodedLength.bit_0_e : Laws.EncodedLength.Statement (.bit_0_e) := rfl
theorem Laws.EncodedLength.bit_1_e : Laws.EncodedLength.Statement (.bit_1_e) := rfl
theorem Laws.EncodedLength.bit_2_e : Laws.EncodedLength.Statement (.bit_2_e) := rfl
theorem Laws.EncodedLength.bit_3_e : Laws.EncodedLength.Statement (.bit_3_e) := rfl
theorem Laws.EncodedLength.bit_4_e : Laws.EncodedLength.Statement (.bit_4_e) := rfl
theorem Laws.EncodedLength.bit_5_e : Laws.EncodedLength.Statement (.bit_5_e) := rfl
theorem Laws.EncodedLength.bit_6_e : Laws.EncodedLength.Statement (.bit_6_e) := rfl
theorem Laws.EncodedLength.bit_7_e : Laws.EncodedLength.Statement (.bit_7_e) := rfl
theorem Laws.EncodedLength.bit_0_h : Laws.EncodedLength.Statement (.bit_0_h) := rfl
theorem Laws.EncodedLength.bit_1_h : Laws.EncodedLength.Statement (.bit_1_h) := rfl
theorem Laws.EncodedLength.bit_2_h : Laws.EncodedLength.Statement (.bit_2_h) := rfl
theorem Laws.EncodedLength.bit_3_h : Laws.EncodedLength.Statement (.bit_3_h) := rfl
theorem Laws.EncodedLength.bit_4_h : Laws.EncodedLength.Statement (.bit_4_h) := rfl
theorem Laws.EncodedLength.bit_5_h : Laws.EncodedLength.Statement (.bit_5_h) := rfl
theorem Laws.EncodedLength.bit_6_h : Laws.EncodedLength.Statement (.bit_6_h) := rfl
theorem Laws.EncodedLength.bit_7_h : Laws.EncodedLength.Statement (.bit_7_h) := rfl
theorem Laws.EncodedLength.bit_0_l : Laws.EncodedLength.Statement (.bit_0_l) := rfl
theorem Laws.EncodedLength.bit_1_l : Laws.EncodedLength.Statement (.bit_1_l) := rfl
theorem Laws.EncodedLength.bit_2_l : Laws.EncodedLength.Statement (.bit_2_l) := rfl
theorem Laws.EncodedLength.bit_3_l : Laws.EncodedLength.Statement (.bit_3_l) := rfl
theorem Laws.EncodedLength.bit_4_l : Laws.EncodedLength.Statement (.bit_4_l) := rfl
theorem Laws.EncodedLength.bit_5_l : Laws.EncodedLength.Statement (.bit_5_l) := rfl
theorem Laws.EncodedLength.bit_6_l : Laws.EncodedLength.Statement (.bit_6_l) := rfl
theorem Laws.EncodedLength.bit_7_l : Laws.EncodedLength.Statement (.bit_7_l) := rfl
theorem Laws.EncodedLength.bit_0_atHL : Laws.EncodedLength.Statement (.bit_0_atHL) := rfl
theorem Laws.EncodedLength.bit_1_atHL : Laws.EncodedLength.Statement (.bit_1_atHL) := rfl
theorem Laws.EncodedLength.bit_2_atHL : Laws.EncodedLength.Statement (.bit_2_atHL) := rfl
theorem Laws.EncodedLength.bit_3_atHL : Laws.EncodedLength.Statement (.bit_3_atHL) := rfl
theorem Laws.EncodedLength.bit_4_atHL : Laws.EncodedLength.Statement (.bit_4_atHL) := rfl
theorem Laws.EncodedLength.bit_5_atHL : Laws.EncodedLength.Statement (.bit_5_atHL) := rfl
theorem Laws.EncodedLength.bit_6_atHL : Laws.EncodedLength.Statement (.bit_6_atHL) := rfl
theorem Laws.EncodedLength.bit_7_atHL : Laws.EncodedLength.Statement (.bit_7_atHL) := rfl
theorem Laws.EncodedLength.bit_0_a : Laws.EncodedLength.Statement (.bit_0_a) := rfl
theorem Laws.EncodedLength.bit_1_a : Laws.EncodedLength.Statement (.bit_1_a) := rfl
theorem Laws.EncodedLength.bit_2_a : Laws.EncodedLength.Statement (.bit_2_a) := rfl
theorem Laws.EncodedLength.bit_3_a : Laws.EncodedLength.Statement (.bit_3_a) := rfl
theorem Laws.EncodedLength.bit_4_a : Laws.EncodedLength.Statement (.bit_4_a) := rfl
theorem Laws.EncodedLength.bit_5_a : Laws.EncodedLength.Statement (.bit_5_a) := rfl
theorem Laws.EncodedLength.bit_6_a : Laws.EncodedLength.Statement (.bit_6_a) := rfl
theorem Laws.EncodedLength.bit_7_a : Laws.EncodedLength.Statement (.bit_7_a) := rfl
theorem Laws.EncodedLength.res_0_b : Laws.EncodedLength.Statement (.res_0_b) := rfl
theorem Laws.EncodedLength.res_1_b : Laws.EncodedLength.Statement (.res_1_b) := rfl
theorem Laws.EncodedLength.res_2_b : Laws.EncodedLength.Statement (.res_2_b) := rfl
theorem Laws.EncodedLength.res_3_b : Laws.EncodedLength.Statement (.res_3_b) := rfl
theorem Laws.EncodedLength.res_4_b : Laws.EncodedLength.Statement (.res_4_b) := rfl
theorem Laws.EncodedLength.res_5_b : Laws.EncodedLength.Statement (.res_5_b) := rfl
theorem Laws.EncodedLength.res_6_b : Laws.EncodedLength.Statement (.res_6_b) := rfl
theorem Laws.EncodedLength.res_7_b : Laws.EncodedLength.Statement (.res_7_b) := rfl
theorem Laws.EncodedLength.res_0_c : Laws.EncodedLength.Statement (.res_0_c) := rfl
theorem Laws.EncodedLength.res_1_c : Laws.EncodedLength.Statement (.res_1_c) := rfl
theorem Laws.EncodedLength.res_2_c : Laws.EncodedLength.Statement (.res_2_c) := rfl
theorem Laws.EncodedLength.res_3_c : Laws.EncodedLength.Statement (.res_3_c) := rfl
theorem Laws.EncodedLength.res_4_c : Laws.EncodedLength.Statement (.res_4_c) := rfl
theorem Laws.EncodedLength.res_5_c : Laws.EncodedLength.Statement (.res_5_c) := rfl
theorem Laws.EncodedLength.res_6_c : Laws.EncodedLength.Statement (.res_6_c) := rfl
theorem Laws.EncodedLength.res_7_c : Laws.EncodedLength.Statement (.res_7_c) := rfl
theorem Laws.EncodedLength.res_0_d : Laws.EncodedLength.Statement (.res_0_d) := rfl
theorem Laws.EncodedLength.res_1_d : Laws.EncodedLength.Statement (.res_1_d) := rfl
theorem Laws.EncodedLength.res_2_d : Laws.EncodedLength.Statement (.res_2_d) := rfl
theorem Laws.EncodedLength.res_3_d : Laws.EncodedLength.Statement (.res_3_d) := rfl
theorem Laws.EncodedLength.res_4_d : Laws.EncodedLength.Statement (.res_4_d) := rfl
theorem Laws.EncodedLength.res_5_d : Laws.EncodedLength.Statement (.res_5_d) := rfl
theorem Laws.EncodedLength.res_6_d : Laws.EncodedLength.Statement (.res_6_d) := rfl
theorem Laws.EncodedLength.res_7_d : Laws.EncodedLength.Statement (.res_7_d) := rfl
theorem Laws.EncodedLength.res_0_e : Laws.EncodedLength.Statement (.res_0_e) := rfl
theorem Laws.EncodedLength.res_1_e : Laws.EncodedLength.Statement (.res_1_e) := rfl
theorem Laws.EncodedLength.res_2_e : Laws.EncodedLength.Statement (.res_2_e) := rfl
theorem Laws.EncodedLength.res_3_e : Laws.EncodedLength.Statement (.res_3_e) := rfl
theorem Laws.EncodedLength.res_4_e : Laws.EncodedLength.Statement (.res_4_e) := rfl
theorem Laws.EncodedLength.res_5_e : Laws.EncodedLength.Statement (.res_5_e) := rfl
theorem Laws.EncodedLength.res_6_e : Laws.EncodedLength.Statement (.res_6_e) := rfl
theorem Laws.EncodedLength.res_7_e : Laws.EncodedLength.Statement (.res_7_e) := rfl
theorem Laws.EncodedLength.res_0_h : Laws.EncodedLength.Statement (.res_0_h) := rfl
theorem Laws.EncodedLength.res_1_h : Laws.EncodedLength.Statement (.res_1_h) := rfl
theorem Laws.EncodedLength.res_2_h : Laws.EncodedLength.Statement (.res_2_h) := rfl
theorem Laws.EncodedLength.res_3_h : Laws.EncodedLength.Statement (.res_3_h) := rfl
theorem Laws.EncodedLength.res_4_h : Laws.EncodedLength.Statement (.res_4_h) := rfl
theorem Laws.EncodedLength.res_5_h : Laws.EncodedLength.Statement (.res_5_h) := rfl
theorem Laws.EncodedLength.res_6_h : Laws.EncodedLength.Statement (.res_6_h) := rfl
theorem Laws.EncodedLength.res_7_h : Laws.EncodedLength.Statement (.res_7_h) := rfl
theorem Laws.EncodedLength.res_0_l : Laws.EncodedLength.Statement (.res_0_l) := rfl
theorem Laws.EncodedLength.res_1_l : Laws.EncodedLength.Statement (.res_1_l) := rfl
theorem Laws.EncodedLength.res_2_l : Laws.EncodedLength.Statement (.res_2_l) := rfl
theorem Laws.EncodedLength.res_3_l : Laws.EncodedLength.Statement (.res_3_l) := rfl
theorem Laws.EncodedLength.res_4_l : Laws.EncodedLength.Statement (.res_4_l) := rfl
theorem Laws.EncodedLength.res_5_l : Laws.EncodedLength.Statement (.res_5_l) := rfl
theorem Laws.EncodedLength.res_6_l : Laws.EncodedLength.Statement (.res_6_l) := rfl
theorem Laws.EncodedLength.res_7_l : Laws.EncodedLength.Statement (.res_7_l) := rfl
theorem Laws.EncodedLength.res_0_atHL : Laws.EncodedLength.Statement (.res_0_atHL) := rfl
theorem Laws.EncodedLength.res_1_atHL : Laws.EncodedLength.Statement (.res_1_atHL) := rfl
theorem Laws.EncodedLength.res_2_atHL : Laws.EncodedLength.Statement (.res_2_atHL) := rfl
theorem Laws.EncodedLength.res_3_atHL : Laws.EncodedLength.Statement (.res_3_atHL) := rfl
theorem Laws.EncodedLength.res_4_atHL : Laws.EncodedLength.Statement (.res_4_atHL) := rfl
theorem Laws.EncodedLength.res_5_atHL : Laws.EncodedLength.Statement (.res_5_atHL) := rfl
theorem Laws.EncodedLength.res_6_atHL : Laws.EncodedLength.Statement (.res_6_atHL) := rfl
theorem Laws.EncodedLength.res_7_atHL : Laws.EncodedLength.Statement (.res_7_atHL) := rfl
theorem Laws.EncodedLength.res_0_a : Laws.EncodedLength.Statement (.res_0_a) := rfl
theorem Laws.EncodedLength.res_1_a : Laws.EncodedLength.Statement (.res_1_a) := rfl
theorem Laws.EncodedLength.res_2_a : Laws.EncodedLength.Statement (.res_2_a) := rfl
theorem Laws.EncodedLength.res_3_a : Laws.EncodedLength.Statement (.res_3_a) := rfl
theorem Laws.EncodedLength.res_4_a : Laws.EncodedLength.Statement (.res_4_a) := rfl
theorem Laws.EncodedLength.res_5_a : Laws.EncodedLength.Statement (.res_5_a) := rfl
theorem Laws.EncodedLength.res_6_a : Laws.EncodedLength.Statement (.res_6_a) := rfl
theorem Laws.EncodedLength.res_7_a : Laws.EncodedLength.Statement (.res_7_a) := rfl
theorem Laws.EncodedLength.set_0_b : Laws.EncodedLength.Statement (.set_0_b) := rfl
theorem Laws.EncodedLength.set_1_b : Laws.EncodedLength.Statement (.set_1_b) := rfl
theorem Laws.EncodedLength.set_2_b : Laws.EncodedLength.Statement (.set_2_b) := rfl
theorem Laws.EncodedLength.set_3_b : Laws.EncodedLength.Statement (.set_3_b) := rfl
theorem Laws.EncodedLength.set_4_b : Laws.EncodedLength.Statement (.set_4_b) := rfl
theorem Laws.EncodedLength.set_5_b : Laws.EncodedLength.Statement (.set_5_b) := rfl
theorem Laws.EncodedLength.set_6_b : Laws.EncodedLength.Statement (.set_6_b) := rfl
theorem Laws.EncodedLength.set_7_b : Laws.EncodedLength.Statement (.set_7_b) := rfl
theorem Laws.EncodedLength.set_0_c : Laws.EncodedLength.Statement (.set_0_c) := rfl
theorem Laws.EncodedLength.set_1_c : Laws.EncodedLength.Statement (.set_1_c) := rfl
theorem Laws.EncodedLength.set_2_c : Laws.EncodedLength.Statement (.set_2_c) := rfl
theorem Laws.EncodedLength.set_3_c : Laws.EncodedLength.Statement (.set_3_c) := rfl
theorem Laws.EncodedLength.set_4_c : Laws.EncodedLength.Statement (.set_4_c) := rfl
theorem Laws.EncodedLength.set_5_c : Laws.EncodedLength.Statement (.set_5_c) := rfl
theorem Laws.EncodedLength.set_6_c : Laws.EncodedLength.Statement (.set_6_c) := rfl
theorem Laws.EncodedLength.set_7_c : Laws.EncodedLength.Statement (.set_7_c) := rfl
theorem Laws.EncodedLength.set_0_d : Laws.EncodedLength.Statement (.set_0_d) := rfl
theorem Laws.EncodedLength.set_1_d : Laws.EncodedLength.Statement (.set_1_d) := rfl
theorem Laws.EncodedLength.set_2_d : Laws.EncodedLength.Statement (.set_2_d) := rfl
theorem Laws.EncodedLength.set_3_d : Laws.EncodedLength.Statement (.set_3_d) := rfl
theorem Laws.EncodedLength.set_4_d : Laws.EncodedLength.Statement (.set_4_d) := rfl
theorem Laws.EncodedLength.set_5_d : Laws.EncodedLength.Statement (.set_5_d) := rfl
theorem Laws.EncodedLength.set_6_d : Laws.EncodedLength.Statement (.set_6_d) := rfl
theorem Laws.EncodedLength.set_7_d : Laws.EncodedLength.Statement (.set_7_d) := rfl
theorem Laws.EncodedLength.set_0_e : Laws.EncodedLength.Statement (.set_0_e) := rfl
theorem Laws.EncodedLength.set_1_e : Laws.EncodedLength.Statement (.set_1_e) := rfl
theorem Laws.EncodedLength.set_2_e : Laws.EncodedLength.Statement (.set_2_e) := rfl
theorem Laws.EncodedLength.set_3_e : Laws.EncodedLength.Statement (.set_3_e) := rfl
theorem Laws.EncodedLength.set_4_e : Laws.EncodedLength.Statement (.set_4_e) := rfl
theorem Laws.EncodedLength.set_5_e : Laws.EncodedLength.Statement (.set_5_e) := rfl
theorem Laws.EncodedLength.set_6_e : Laws.EncodedLength.Statement (.set_6_e) := rfl
theorem Laws.EncodedLength.set_7_e : Laws.EncodedLength.Statement (.set_7_e) := rfl
theorem Laws.EncodedLength.set_0_h : Laws.EncodedLength.Statement (.set_0_h) := rfl
theorem Laws.EncodedLength.set_1_h : Laws.EncodedLength.Statement (.set_1_h) := rfl
theorem Laws.EncodedLength.set_2_h : Laws.EncodedLength.Statement (.set_2_h) := rfl
theorem Laws.EncodedLength.set_3_h : Laws.EncodedLength.Statement (.set_3_h) := rfl
theorem Laws.EncodedLength.set_4_h : Laws.EncodedLength.Statement (.set_4_h) := rfl
theorem Laws.EncodedLength.set_5_h : Laws.EncodedLength.Statement (.set_5_h) := rfl
theorem Laws.EncodedLength.set_6_h : Laws.EncodedLength.Statement (.set_6_h) := rfl
theorem Laws.EncodedLength.set_7_h : Laws.EncodedLength.Statement (.set_7_h) := rfl
theorem Laws.EncodedLength.set_0_l : Laws.EncodedLength.Statement (.set_0_l) := rfl
theorem Laws.EncodedLength.set_1_l : Laws.EncodedLength.Statement (.set_1_l) := rfl
theorem Laws.EncodedLength.set_2_l : Laws.EncodedLength.Statement (.set_2_l) := rfl
theorem Laws.EncodedLength.set_3_l : Laws.EncodedLength.Statement (.set_3_l) := rfl
theorem Laws.EncodedLength.set_4_l : Laws.EncodedLength.Statement (.set_4_l) := rfl
theorem Laws.EncodedLength.set_5_l : Laws.EncodedLength.Statement (.set_5_l) := rfl
theorem Laws.EncodedLength.set_6_l : Laws.EncodedLength.Statement (.set_6_l) := rfl
theorem Laws.EncodedLength.set_7_l : Laws.EncodedLength.Statement (.set_7_l) := rfl
theorem Laws.EncodedLength.set_0_atHL : Laws.EncodedLength.Statement (.set_0_atHL) := rfl
theorem Laws.EncodedLength.set_1_atHL : Laws.EncodedLength.Statement (.set_1_atHL) := rfl
theorem Laws.EncodedLength.set_2_atHL : Laws.EncodedLength.Statement (.set_2_atHL) := rfl
theorem Laws.EncodedLength.set_3_atHL : Laws.EncodedLength.Statement (.set_3_atHL) := rfl
theorem Laws.EncodedLength.set_4_atHL : Laws.EncodedLength.Statement (.set_4_atHL) := rfl
theorem Laws.EncodedLength.set_5_atHL : Laws.EncodedLength.Statement (.set_5_atHL) := rfl
theorem Laws.EncodedLength.set_6_atHL : Laws.EncodedLength.Statement (.set_6_atHL) := rfl
theorem Laws.EncodedLength.set_7_atHL : Laws.EncodedLength.Statement (.set_7_atHL) := rfl
theorem Laws.EncodedLength.set_0_a : Laws.EncodedLength.Statement (.set_0_a) := rfl
theorem Laws.EncodedLength.set_1_a : Laws.EncodedLength.Statement (.set_1_a) := rfl
theorem Laws.EncodedLength.set_2_a : Laws.EncodedLength.Statement (.set_2_a) := rfl
theorem Laws.EncodedLength.set_3_a : Laws.EncodedLength.Statement (.set_3_a) := rfl
theorem Laws.EncodedLength.set_4_a : Laws.EncodedLength.Statement (.set_4_a) := rfl
theorem Laws.EncodedLength.set_5_a : Laws.EncodedLength.Statement (.set_5_a) := rfl
theorem Laws.EncodedLength.set_6_a : Laws.EncodedLength.Statement (.set_6_a) := rfl
theorem Laws.EncodedLength.set_7_a : Laws.EncodedLength.Statement (.set_7_a) := rfl
theorem Laws.EncodedLength.neg : Laws.EncodedLength.Statement (.neg) := rfl
theorem Laws.EncodedLength.ld_bc_atNN (nn : Word) : Laws.EncodedLength.Statement (.ld_bc_atNN nn) := rfl
theorem Laws.EncodedLength.ld_de_atNN (nn : Word) : Laws.EncodedLength.Statement (.ld_de_atNN nn) := rfl
theorem Laws.EncodedLength.ld_atNN_bc (nn : Word) : Laws.EncodedLength.Statement (.ld_atNN_bc nn) := rfl
theorem Laws.EncodedLength.ld_atNN_de (nn : Word) : Laws.EncodedLength.Statement (.ld_atNN_de nn) := rfl
theorem Laws.EncodedLength.ld_sp_atNN (nn : Word) : Laws.EncodedLength.Statement (.ld_sp_atNN nn) := rfl
theorem Laws.EncodedLength.ld_atNN_sp (nn : Word) : Laws.EncodedLength.Statement (.ld_atNN_sp nn) := rfl
theorem Laws.EncodedLength.ld_ix_nn (nn : Word) : Laws.EncodedLength.Statement (.ld_ix_nn nn) := rfl
theorem Laws.EncodedLength.push_ix : Laws.EncodedLength.Statement (.push_ix) := rfl
theorem Laws.EncodedLength.pop_ix : Laws.EncodedLength.Statement (.pop_ix) := rfl
theorem Laws.EncodedLength.ld_b_atIX (d : Byte) : Laws.EncodedLength.Statement (.ld_b_atIX d) := rfl
theorem Laws.EncodedLength.ld_c_atIX (d : Byte) : Laws.EncodedLength.Statement (.ld_c_atIX d) := rfl
theorem Laws.EncodedLength.ld_d_atIX (d : Byte) : Laws.EncodedLength.Statement (.ld_d_atIX d) := rfl
theorem Laws.EncodedLength.ld_e_atIX (d : Byte) : Laws.EncodedLength.Statement (.ld_e_atIX d) := rfl
theorem Laws.EncodedLength.ld_h_atIX (d : Byte) : Laws.EncodedLength.Statement (.ld_h_atIX d) := rfl
theorem Laws.EncodedLength.ld_l_atIX (d : Byte) : Laws.EncodedLength.Statement (.ld_l_atIX d) := rfl
theorem Laws.EncodedLength.ld_a_atIX (d : Byte) : Laws.EncodedLength.Statement (.ld_a_atIX d) := rfl
theorem Laws.EncodedLength.add_ix_bc : Laws.EncodedLength.Statement (.add_ix_bc) := rfl
theorem Laws.EncodedLength.add_ix_de : Laws.EncodedLength.Statement (.add_ix_de) := rfl
theorem Laws.EncodedLength.add_ix_ix : Laws.EncodedLength.Statement (.add_ix_ix) := rfl
theorem Laws.EncodedLength.add_ix_sp : Laws.EncodedLength.Statement (.add_ix_sp) := rfl
theorem Laws.EncodedLength.ld_iy_nn (nn : Word) : Laws.EncodedLength.Statement (.ld_iy_nn nn) := rfl
theorem Laws.EncodedLength.push_iy : Laws.EncodedLength.Statement (.push_iy) := rfl
theorem Laws.EncodedLength.pop_iy : Laws.EncodedLength.Statement (.pop_iy) := rfl
theorem Laws.EncodedLength.ld_b_atIY (d : Byte) : Laws.EncodedLength.Statement (.ld_b_atIY d) := rfl
theorem Laws.EncodedLength.ld_c_atIY (d : Byte) : Laws.EncodedLength.Statement (.ld_c_atIY d) := rfl
theorem Laws.EncodedLength.ld_d_atIY (d : Byte) : Laws.EncodedLength.Statement (.ld_d_atIY d) := rfl
theorem Laws.EncodedLength.ld_e_atIY (d : Byte) : Laws.EncodedLength.Statement (.ld_e_atIY d) := rfl
theorem Laws.EncodedLength.ld_h_atIY (d : Byte) : Laws.EncodedLength.Statement (.ld_h_atIY d) := rfl
theorem Laws.EncodedLength.ld_l_atIY (d : Byte) : Laws.EncodedLength.Statement (.ld_l_atIY d) := rfl
theorem Laws.EncodedLength.ld_a_atIY (d : Byte) : Laws.EncodedLength.Statement (.ld_a_atIY d) := rfl
theorem Laws.EncodedLength.add_iy_bc : Laws.EncodedLength.Statement (.add_iy_bc) := rfl
theorem Laws.EncodedLength.add_iy_de : Laws.EncodedLength.Statement (.add_iy_de) := rfl
theorem Laws.EncodedLength.add_iy_iy : Laws.EncodedLength.Statement (.add_iy_iy) := rfl
theorem Laws.EncodedLength.add_iy_sp : Laws.EncodedLength.Statement (.add_iy_sp) := rfl

end Sys2Proof
end

