-- ==== Sys2Proof/Laws/Step.lean ====
section
/-! SUPPORT. Everything a step can do, said once (60_exceptions.md R501, R502). -/

namespace Sys2Proof.Machine

/-- A step that answers a next state was made at a running state with an accepted configuration and a PC, and is one of:
a check before decode; an instruction; a decode error. -/
theorem step_cases {s t : State} (h : step s = .next t) :
    s.cfg.ok = true ∧ s.status = .running ∧ s.pcSet = true ∧
      (s.tick.beforeDecode = some t ∨
        s.tick.beforeDecode = none ∧
          ((∃ i n, s.tick.fetch = .instr i n ∧ exec i (s.tick.advance n) = .next t) ∨
            ∃ bytes, s.tick.fetch = .undecodable bytes ∧ t = s.tick.decodeFails bytes)) := by
  unfold step at h
  split at h
  · cases h
  split at h
  · cases h
  split at h
  · cases h
  next hc hr hp =>
    refine ⟨by simpa using hc, by simpa using hr, by simpa using hp, ?_⟩
    split at h
    · next u hb => cases h; exact .inl hb
    · next hb =>
      refine .inr ⟨hb, ?_⟩
      split at h
      · next i n hf => exact .inl ⟨i, n, hf, h⟩
      · next bytes hf => cases h; exact .inr ⟨bytes, hf, rfl⟩

/-- The checks before decode, in their order (R502). -/
theorem beforeDecode_cases {s t : State} (h : s.beforeDecode = some t) :
    (s.cfg.cycleLimit < s.counter ∧ t = s.stop (.cycleLimitExceeded s.counter)) ∨
      s.counter ≤ s.cfg.cycleLimit ∧
        ((s.pc = 0x0000 ∧ t = s.stop .returned) ∨
          (s.pc = s.cfg.printAddr ∧ t = printService s) ∨ (s.pc = s.cfg.clsAddr ∧ t = clearScreen s)) := by
  unfold State.beforeDecode at h
  split at h
  · next hl => cases h; exact .inl ⟨hl, rfl⟩
  next hl =>
    refine .inr ⟨Nat.le_of_not_lt hl, ?_⟩
    split at h
    · next hz => cases h; exact .inl ⟨hz, rfl⟩
    split at h
    · next hz => cases h; exact .inr (.inl ⟨hz, rfl⟩)
    split at h
    · next hz => cases h; exact .inr (.inr ⟨hz, rfl⟩)
    · cases h

/-- A step goes on to decode exactly when no check applies. -/
theorem beforeDecode_none {s : State} :
    s.beforeDecode = none ↔
      s.counter ≤ s.cfg.cycleLimit ∧ s.pc ≠ 0x0000 ∧ s.pc ≠ s.cfg.printAddr ∧ s.pc ≠ s.cfg.clsAddr := by
  unfold State.beforeDecode
  split
  · simp; omega
  split
  · simp_all
  split
  · simp_all
  split
  · simp_all
  · simp_all

end Sys2Proof.Machine
end

