-- ==== Sys2Proof/Tests/Slice0.lean ====
section
/-! SUPPORT. The model's own tests: ill-formed terms refused, words written out from the encodings, single steps with
results taken from 95_test_vectors.md, and for every statement with hypotheses a state and operands that meet them. -/

namespace Sys2Proof.Tests

open Sys2Proof Sys2Proof.Machine

set_option maxRecDepth 10000

/-! ### Helpers -/

/-- The vectors' configuration with the other two rotates (95_test_vectors.md section 2.4). -/
def throughCarry : Config := { Config.vectors with rotAccOps := [.rla, .rra] }

/-- The vectors' configuration with `unsettledFlagMode = draw` (R48). -/
def drawing : Config := { Config.vectors with unsettledFlagMode := .draw }

/-- The vectors' configuration with a one-byte key cell (HLT-6). -/
def narrowKeys : Config := { Config.vectors with keyWidth := .one, noKeyValue := 0x00FF }

/-- The vectors' configuration with two cells for the clear-screen service (CLS-1). -/
def clearing : Config := { Config.vectors with clsInit := [(0x400E, 0x00), (0x400F, 0x40)] }

/-- Bytes stored at an address, a run about to take its first step there. -/
def started (cfg : Config) (bytes : List Byte) (start : Nat) : State :=
  ((State.create cfg).load bytes start).beginRun start false

/-- A step answers a next state with this property. -/
def after (s : State) (p : State → Bool) : Bool :=
  match step s with
  | .next t => p t
  | .fault _ => false
  | .refused _ => false

/-- The instruction answers a next state with this property. -/
def execAfter (i : Instr) (s : State) (p : State → Bool) : Bool :=
  match exec i s with
  | .next t => p t
  | .fault _ => false
  | .refused _ => false

/-! ### Ill-formed terms are refused (WellFormed.lean, Config.lean) -/

theorem test_wf_rotate_not_selected : Instr.wf Config.vectors .rla = false ∧ Instr.wf throughCarry .rla = true := by
  decide

theorem test_wf_prefix_not_admitted :
    Instr.wf Config.vectors .push_iy = false ∧ Instr.wf Config.vectors .push_ix = true := by decide

theorem test_wf_index_load_not_selected :
    Instr.wf Config.vectors (.ld_e_atIX 0x00) = false ∧ Instr.wf Config.vectors (.ld_d_atIX 0x00) = true := by decide

theorem test_wf_index_add_not_selected :
    Instr.wf Config.vectors .add_ix_bc = false ∧ Instr.wf Config.vectors .add_ix_de = true := by decide

theorem test_config_accepted : Config.vectors.ok = true ∧ throughCarry.ok = true ∧ drawing.ok = true ∧
    narrowKeys.ok = true ∧ clearing.ok = true := by decide

theorem test_config_print_at_sentinel : Config.ok { Config.vectors with printAddr := 0x0000 } = false := by decide

theorem test_config_clear_at_sentinel : Config.ok { Config.vectors with clsAddr := 0x0000 } = false := by decide

theorem test_config_one_entry_address : Config.ok { Config.vectors with clsAddr := 0x0010 } = false := by decide

theorem test_config_wide_no_key : Config.ok { Config.vectors with keyWidth := .one } = false := by decide

theorem test_config_rotates :
    Config.ok { Config.vectors with rotAccOps := [.rla] } = false ∧
    Config.ok { Config.vectors with rotAccOps := [.rla, .rla] } = false := by decide

theorem test_config_prefixes :
    Config.ok { Config.vectors with idxPrefixes := [] } = false ∧
    Config.ok { Config.vectors with idxPrefixes := [.ix, .ix] } = false := by decide

theorem test_config_index_loads :
    Config.ok { Config.vectors with idxLoadRegs := [.a, .b, .c] } = false ∧
    Config.ok { Config.vectors with idxLoadRegs := [.a, .b, .c, .c] } = false := by decide

theorem test_rejected_config_is_refused :
    step { State.reset with cfg := { Config.vectors with clsAddr := 0x0000 } } = .refused .configRejected := rfl

/-! ### Words written out from the encodings decode to their instructions -/

/-- R201, `01 yyy zzz`: y = 0 (B), z = 1 (C). -/
theorem test_decode_ld_r_r : decodeBytes Config.vectors [0b01000001] = .instr .ld_b_c 1 := by decide

/-- R204, `00 yyy 110 n`: y = 7 (A). -/
theorem test_decode_ld_r_n : decodeBytes Config.vectors [0b00111110, 0x2A] = .instr (.ld_a_n 0x2A) 2 := by decide

/-- R210, 0x21 lo hi. -/
theorem test_decode_ld_rr_nn :
    decodeBytes Config.vectors [0b00100001, 0x80, 0x40] = .instr (.ld_hl_nn 0x4080) 3 := by decide

/-- R219, 0x22 lo hi. -/
theorem test_decode_st_hl : decodeBytes Config.vectors [0b00100010, 0x00, 0x43] = .instr (.ld_atNN_hl 0x4300) 3 := by
  decide

/-- R232, `11 qq0 101`: qq = 3 (AF). -/
theorem test_decode_push_af : decodeBytes Config.vectors [0b11110101] = .instr .push_af 1 := by decide

/-- R234, `11 qq0 001`: qq = 1 (DE); R240, 0xEB. -/
theorem test_decode_pop_de : decodeBytes Config.vectors [0b11010001] = .instr .pop_de 1 ∧
    decodeBytes Config.vectors [0b11101011] = .instr .ex_de_hl 1 := by decide

/-- R134, `10 yyy zzz`: y = 3 (SBC), z = 6 ((HL)). -/
theorem test_decode_sbc_hl : decodeBytes Config.vectors [0b10011110] = .instr .sbc_a_atHL 1 := by decide

/-- R134, `11 yyy 110 n`: y = 7 (CP). -/
theorem test_decode_cp_n : decodeBytes Config.vectors [0b11111110, 0x7F] = .instr (.cp_n 0x7F) 2 := by decide

/-- R295, `00 rr1 001`: rr = 3 (SP). -/
theorem test_decode_add_hl_sp : decodeBytes Config.vectors [0b00111001] = .instr .add_hl_sp 1 := by decide

/-- R300, `00 yyy 100`: y = 6 ((HL)); R305, `00 rr1 011`: rr = 0 (BC). -/
theorem test_decode_inc_dec : decodeBytes Config.vectors [0b00110100] = .instr .inc_atHL 1 ∧
    decodeBytes Config.vectors [0b00001011] = .instr .dec_bc 1 := by decide

/-- R310, R313: `00 0yy 111`, selected by rotAccOps. -/
theorem test_decode_rotates : decodeBytes Config.vectors [0b00000111] = .instr .rlca 1 ∧
    decodeBytes throughCarry [0b00011111] = .instr .rra 1 := by decide

/-- R320 to R322: 0x37, 0x3F, 0x2F. -/
theorem test_decode_carry : decodeBytes Config.vectors [0b00110111] = .instr .scf 1 ∧
    decodeBytes Config.vectors [0b00111111] = .instr .ccf 1 ∧
    decodeBytes Config.vectors [0b00101111] = .instr .cpl 1 := by decide

/-- R333, `11 0cc 010`: cc = 2 (NC). -/
theorem test_decode_jp_nc : decodeBytes Config.vectors [0b11010010, 0x34, 0x12] = .instr (.jp_nc_nn 0x1234) 3 := by
  decide

/-- R335, `00 1cc 000`: cc = 3 (C); R336, 0x10. -/
theorem test_decode_jr_c : decodeBytes Config.vectors [0b00111000, 0xFE] = .instr (.jr_c_e 0xFE) 2 ∧
    decodeBytes Config.vectors [0b00010000, 0x80] = .instr (.djnz_e 0x80) 2 := by decide

/-- R338, `11 0cc 100`: cc = 1 (Z); R340, `11 0cc 000`: cc = 0 (NZ). -/
theorem test_decode_call_ret : decodeBytes Config.vectors [0b11001100, 0x00, 0x41] = .instr (.call_z_nn 0x4100) 3 ∧
    decodeBytes Config.vectors [0b11000000] = .instr .ret_nz 1 := by decide

/-- R341, `11 yyy 111`: y = 5 (28H). -/
theorem test_decode_rst : decodeBytes Config.vectors [0b11101111] = .instr .rst_28 1 := by decide

/-- R440: 0x76, where LD (HL),(HL) would be. -/
theorem test_decode_halt : decodeBytes Config.vectors [0b01110110] = .instr .halt 1 := by decide

/-- R141, 0xCB then `xx bbb rrr`: BIT 7,(HL); RES 1,D; SET 6,L; SRL A. -/
theorem test_decode_bits : decodeBytes Config.vectors [0xCB, 0b01111110] = .instr .bit_7_atHL 2 ∧
    decodeBytes Config.vectors [0xCB, 0b10001010] = .instr .res_1_d 2 ∧
    decodeBytes Config.vectors [0xCB, 0b11110101] = .instr .set_6_l 2 ∧
    decodeBytes Config.vectors [0xCB, 0b00111111] = .instr .srl_a 2 := by decide

/-- R142, the extended page. -/
theorem test_decode_extended : decodeBytes Config.vectors [0xED, 0x44] = .instr .neg 2 ∧
    decodeBytes Config.vectors [0xED, 0x7B, 0x00, 0x43] = .instr (.ld_sp_atNN 0x4300) 4 ∧
    decodeBytes Config.vectors [0xED, 0x53, 0x10, 0x42] = .instr (.ld_atNN_de 0x4210) 4 := by decide

/-- R143, the indexed page: `01 rrr 110` with r = 0 (B); ADD IX,DE; LD IX,nn. -/
theorem test_decode_indexed : decodeBytes Config.vectors [0xDD, 0b01000110, 0xFF] = .instr (.ld_b_atIX 0xFF) 3 ∧
    decodeBytes Config.vectors [0xDD, 0x19] = .instr .add_ix_de 2 ∧
    decodeBytes Config.vectors [0xDD, 0x21, 0x00, 0x40] = .instr (.ld_ix_nn 0x4000) 4 := by decide

/-- R150, section 2.10 of the vectors: an undecodable byte alone, or a prefix and its undecodable second byte. -/
theorem test_decode_errors : decodeBytes Config.vectors [0x27] = .undecodable [0x27] ∧
    decodeBytes Config.vectors [0x17] = .undecodable [0x17] ∧
    decodeBytes Config.vectors [0xFD, 0x21] = .undecodable [0xFD] ∧
    decodeBytes Config.vectors [0xDD, 0xCB] = .undecodable [0xDD, 0xCB] ∧
    decodeBytes Config.vectors [0xCB, 0x37] = .undecodable [0xCB, 0x37] ∧
    decodeBytes Config.vectors [0xED, 0x4C] = .undecodable [0xED, 0x4C] := by decide

/-- The host's numbering of a word: the first byte in bits 7 to 0; the table's own pattern has the prefix above
(log entry 11). -/
theorem test_table_words : decodeTableWord 8 0x41 = some .ld_b_c ∧ decodeTableWord 16 0xCB5E = some .bit_3_atHL ∧
    decodeTableWord 16 0xDD7E = some (.ld_a_atIX 0x00) ∧ decodeTableWord 16 0x44ED = some .neg ∧
    decodeTableWord 16 0xEDCB = some .set_5_l ∧ decodeTableWord 16 0xCBED = some .set_5_l := by decide

/-! ### Single steps with the results of 95_test_vectors.md sections 2.1 to 2.8 -/

/-- LD-1: 41 (LD B,C). -/
theorem test_LD_1 : after ((started Config.vectors [0x41] 0x4000) |>.writeReg (.r8 .c) 0x5A)
    (fun t => t.readReg (.r8 .b) = some 0x5A ∧ t.readReg (.r8 .c) = some 0x5A ∧ t.readReg .f = some 0x00 ∧
      t.pc = 0x4001) := by decide

/-- LD-2: 66 (LD H,(HL)). -/
theorem test_LD_2 : after ((started Config.vectors [0x66] 0x4000) |>.writeReg (.r16 .hl) 0x4123
      |>.pokeByte 0x4123 0x77)
    (fun t => t.readReg (.r8 .h) = some 0x77 ∧ t.readReg (.r8 .l) = some 0x23 ∧ t.pc = 0x4001) := by decide

/-- LD-4: 74 (LD (HL),H). -/
theorem test_LD_4 : after ((started Config.vectors [0x74] 0x4000) |>.writeReg (.r16 .hl) 0x4123)
    (fun t => t.peekByte 0x4123 = 0x41) := by decide

/-- LD-5: 36 99 (LD (HL),n). -/
theorem test_LD_5 : after ((started Config.vectors [0x36, 0x99] 0x4000) |>.writeReg (.r16 .hl) 0xFFFF)
    (fun t => t.peekByte 0xFFFF = 0x99 ∧ t.pc = 0x4002) := by decide

/-- LD-6: 0A (LD A,(BC)). -/
theorem test_LD_6 : after ((started Config.vectors [0x0A] 0x4000) |>.writeReg (.r16 .bc) 0x4200
      |>.pokeByte 0x4200 0x3C)
    (fun t => t.readReg (.r8 .a) = some 0x3C) := by decide

/-- LD-7: 12 (LD (DE),A). -/
theorem test_LD_7 : after ((started Config.vectors [0x12] 0x4000) |>.writeReg (.r8 .a) 0x81
      |>.writeReg (.r16 .de) 0x0000)
    (fun t => t.peekByte 0x0000 = 0x81) := by decide

/-- LD-8: 3A 25 40 (LD A,(4025)). -/
theorem test_LD_8 : after ((started Config.vectors [0x3A, 0x25, 0x40] 0x4000) |>.pokeByte 0x4025 0xFF)
    (fun t => t.readReg (.r8 .a) = some 0xFF ∧ t.pc = 0x4003) := by decide

/-- LD-9: 32 FF FF (LD (FFFF),A). -/
theorem test_LD_9 : after ((started Config.vectors [0x32, 0xFF, 0xFF] 0x4000) |>.writeReg (.r8 .a) 0x12)
    (fun t => t.peekByte 0xFFFF = 0x12) := by decide

/-- LD-10: 2A FF FF (LD HL,(FFFF)). -/
theorem test_LD_10 : after ((started Config.vectors [0x2A, 0xFF, 0xFF] 0x4000) |>.pokeByte 0xFFFF 0x34
      |>.pokeByte 0x0000 0x12)
    (fun t => t.readReg (.r16 .hl) = some 0x1234) := by decide

/-- LD-11: 22 00 42 (LD (4200),HL). -/
theorem test_LD_11 : after ((started Config.vectors [0x22, 0x00, 0x42] 0x4000) |>.writeReg (.r16 .hl) 0xBEEF)
    (fun t => t.peekByte 0x4200 = 0xEF ∧ t.peekByte 0x4201 = 0xBE) := by decide

/-- LD-12: 01 34 12 (LD BC,1234). -/
theorem test_LD_12 : after (started Config.vectors [0x01, 0x34, 0x12] 0x4000)
    (fun t => t.readReg (.r8 .b) = some 0x12 ∧ t.readReg (.r8 .c) = some 0x34 ∧ t.pc = 0x4003) := by decide

/-- LD-13: 31 00 44 (LD SP,4400). -/
theorem test_LD_13 : after ((started Config.vectors [0x31, 0x00, 0x44] 0x4000) |>.writeReg (.r16 .sp) 0x0000)
    (fun t => t.readReg (.r16 .sp) = some 0x4400) := by decide

/-- LD-15: F5 (PUSH AF). -/
theorem test_LD_15 : after ((started Config.vectors [0xF5] 0x4000) |>.writeReg (.r8 .a) 0x12 |>.writeReg .f 0xFF)
    (fun t => t.readReg (.r16 .sp) = some 0x43FE ∧ t.peekByte 0x43FE = 0xFF ∧ t.peekByte 0x43FF = 0x12) := by decide

/-- LD-16: F1 (POP AF). -/
theorem test_LD_16 : after ((started Config.vectors [0xF1] 0x4000) |>.writeReg (.r16 .sp) 0x43FE
      |>.pokeByte 0x43FE 0x28 |>.pokeByte 0x43FF 0x99)
    (fun t => t.readReg (.r8 .a) = some 0x99 ∧ t.readReg .f = some 0x28 ∧
      t.readReg (.r16 .sp) = some 0x4400) := by decide

/-- LD-17: E1 (POP HL). -/
theorem test_LD_17 : after ((started Config.vectors [0xE1] 0x4000) |>.writeReg (.r16 .sp) 0xFFFF
      |>.pokeByte 0xFFFF 0x01 |>.pokeByte 0x0000 0x02)
    (fun t => t.readReg (.r16 .hl) = some 0x0201 ∧ t.readReg (.r16 .sp) = some 0x0001) := by decide

/-- LD-18: D5 (PUSH DE). -/
theorem test_LD_18 : after ((started Config.vectors [0xD5] 0x4000) |>.writeReg (.r16 .de) 0xA1B2
      |>.writeReg (.r16 .sp) 0x0001)
    (fun t => t.readReg (.r16 .sp) = some 0xFFFF ∧ t.peekByte 0xFFFF = 0xB2 ∧ t.peekByte 0x0000 = 0xA1) := by decide

/-- LD-19: EB (EX DE,HL). -/
theorem test_LD_19 : after ((started Config.vectors [0xEB] 0x4000) |>.writeReg (.r16 .de) 0x1111
      |>.writeReg (.r16 .hl) 0x2222 |>.writeReg .f 0xC5)
    (fun t => t.readReg (.r16 .de) = some 0x2222 ∧ t.readReg (.r16 .hl) = some 0x1111 ∧
      t.readReg .f = some 0xC5) := by decide

/-- LD-20: 00 (NOP). -/
theorem test_LD_20 : after ((started Config.vectors [0x00] 0x4000) |>.writeReg .f 0xFF)
    (fun t => t.readReg .f = some 0xFF ∧ t.pc = 0x4001) := by decide

/-- ALU-2: 80 (ADD A,B). -/
theorem test_ALU_2 : after ((started Config.vectors [0x80] 0x4000) |>.writeReg (.r8 .a) 0xFF
      |>.writeReg (.r8 .b) 0x01 |>.writeReg .f 0x28)
    (fun t => t.readReg (.r8 .a) = some 0x00 ∧ t.readReg .f = some 0x51) := by decide

/-- ALU-3: C6 80 (ADD A,80). -/
theorem test_ALU_3 : after ((started Config.vectors [0xC6, 0x80] 0x4000) |>.writeReg (.r8 .a) 0x80)
    (fun t => t.readReg (.r8 .a) = some 0x00 ∧ t.readReg .f = some 0x45 ∧ t.pc = 0x4002) := by decide

/-- ALU-5: 89 (ADC A,C). -/
theorem test_ALU_5 : after ((started Config.vectors [0x89] 0x4000) |>.writeReg (.r8 .a) 0x0E
      |>.writeReg (.r8 .c) 0x01 |>.writeReg .f 0x01)
    (fun t => t.readReg (.r8 .a) = some 0x10 ∧ t.readReg .f = some 0x10) := by decide

/-- ALU-7: 8E (ADC A,(HL)). -/
theorem test_ALU_7 : after ((started Config.vectors [0x8E] 0x4000) |>.writeReg (.r8 .a) 0x7F
      |>.writeReg (.r16 .hl) 0x4100 |>.pokeByte 0x4100 0x00 |>.writeReg .f 0x01)
    (fun t => t.readReg (.r8 .a) = some 0x80 ∧ t.readReg .f = some 0x94) := by decide

/-- ALU-8: 90 (SUB B). -/
theorem test_ALU_8 : after ((started Config.vectors [0x90] 0x4000) |>.writeReg (.r8 .a) 0x00
      |>.writeReg (.r8 .b) 0x01)
    (fun t => t.readReg (.r8 .a) = some 0xFF ∧ t.readReg .f = some 0x93) := by decide

/-- ALU-9: D6 01 (SUB 01). -/
theorem test_ALU_9 : after ((started Config.vectors [0xD6, 0x01] 0x4000) |>.writeReg (.r8 .a) 0x80)
    (fun t => t.readReg (.r8 .a) = some 0x7F ∧ t.readReg .f = some 0x16) := by decide

/-- ALU-11: 98 (SBC A,B). -/
theorem test_ALU_11 : after ((started Config.vectors [0x98] 0x4000) |>.writeReg (.r8 .a) 0x10
      |>.writeReg (.r8 .b) 0x01 |>.writeReg .f 0x01)
    (fun t => t.readReg (.r8 .a) = some 0x0E ∧ t.readReg .f = some 0x12) := by decide

/-- ALU-12: DE FF (SBC A,FF). -/
theorem test_ALU_12 : after ((started Config.vectors [0xDE, 0xFF] 0x4000) |>.writeReg (.r8 .a) 0x00
      |>.writeReg .f 0x01)
    (fun t => t.readReg (.r8 .a) = some 0x00 ∧ t.readReg .f = some 0x53) := by decide

/-- ALU-13: 9E (SBC A,(HL)). -/
theorem test_ALU_13 : after ((started Config.vectors [0x9E] 0x4000) |>.writeReg (.r8 .a) 0x7F
      |>.writeReg (.r16 .hl) 0x4100 |>.pokeByte 0x4100 0xFF)
    (fun t => t.readReg (.r8 .a) = some 0x80 ∧ t.readReg .f = some 0x87) := by decide

/-- ALU-14: A0 (AND B). -/
theorem test_ALU_14 : after ((started Config.vectors [0xA0] 0x4000) |>.writeReg (.r8 .a) 0xF0
      |>.writeReg (.r8 .b) 0x3C |>.writeReg .f 0x01)
    (fun t => t.readReg (.r8 .a) = some 0x30 ∧ t.readReg .f = some 0x14) := by decide

/-- ALU-15: E6 0F (AND 0F). -/
theorem test_ALU_15 : after ((started Config.vectors [0xE6, 0x0F] 0x4000) |>.writeReg (.r8 .a) 0xF0
      |>.writeReg .f 0xFF)
    (fun t => t.readReg (.r8 .a) = some 0x00 ∧ t.readReg .f = some 0x54) := by decide

/-- ALU-17: AF (XOR A). -/
theorem test_ALU_17 : after ((started Config.vectors [0xAF] 0x4000) |>.writeReg (.r8 .a) 0x5A |>.writeReg .f 0xFF)
    (fun t => t.readReg (.r8 .a) = some 0x00 ∧ t.readReg .f = some 0x44) := by decide

/-- ALU-18: EE F1 (XOR F1). -/
theorem test_ALU_18 : after ((started Config.vectors [0xEE, 0xF1] 0x4000) |>.writeReg (.r8 .a) 0x0F)
    (fun t => t.readReg (.r8 .a) = some 0xFE ∧ t.readReg .f = some 0x80) := by decide

/-- ALU-19: B1 (OR C). -/
theorem test_ALU_19 : after ((started Config.vectors [0xB1] 0x4000) |>.writeReg (.r8 .a) 0x80
      |>.writeReg (.r8 .c) 0x01 |>.writeReg .f 0x01)
    (fun t => t.readReg (.r8 .a) = some 0x81 ∧ t.readReg .f = some 0x84) := by decide

/-- ALU-22: B8 (CP B). -/
theorem test_ALU_22 : after ((started Config.vectors [0xB8] 0x4000) |>.writeReg (.r8 .a) 0x42
      |>.writeReg (.r8 .b) 0x42)
    (fun t => t.readReg (.r8 .a) = some 0x42 ∧ t.readReg .f = some 0x42) := by decide

/-- ALU-24: BE (CP (HL)). -/
theorem test_ALU_24 : after ((started Config.vectors [0xBE] 0x4000) |>.writeReg (.r8 .a) 0x90
      |>.writeReg (.r16 .hl) 0x4100 |>.pokeByte 0x4100 0x10)
    (fun t => t.readReg (.r8 .a) = some 0x90 ∧ t.readReg .f = some 0x82) := by decide

/-- ALU-25: FE 01 (CP 01). -/
theorem test_ALU_25 : after ((started Config.vectors [0xFE, 0x01] 0x4000) |>.writeReg (.r8 .a) 0x80)
    (fun t => t.readReg (.r8 .a) = some 0x80 ∧ t.readReg .f = some 0x16) := by decide

/-- IDU-1: 19 (ADD HL,DE). -/
theorem test_IDU_1 : after ((started Config.vectors [0x19] 0x4000) |>.writeReg (.r16 .hl) 0xFFFF
      |>.writeReg (.r16 .de) 0x0001 |>.writeReg .f 0xFF)
    (fun t => t.readReg (.r16 .hl) = some 0x0000 ∧ t.readReg .f = some 0xED) := by decide

/-- IDU-3: 29 (ADD HL,HL). -/
theorem test_IDU_3 : after ((started Config.vectors [0x29] 0x4000) |>.writeReg (.r16 .hl) 0x8001)
    (fun t => t.readReg (.r16 .hl) = some 0x0002 ∧ t.readReg .f = some 0x01) := by decide

/-- IDU-6: 04 (INC B). -/
theorem test_IDU_6 : after ((started Config.vectors [0x04] 0x4000) |>.writeReg (.r8 .b) 0xFF |>.writeReg .f 0x01)
    (fun t => t.readReg (.r8 .b) = some 0x00 ∧ t.readReg .f = some 0x41) := by decide

/-- IDU-7: 03 (INC BC). -/
theorem test_IDU_7 : after ((started Config.vectors [0x03] 0x4000) |>.writeReg (.r16 .bc) 0xFFFF)
    (fun t => t.readReg (.r16 .bc) = some 0x0000 ∧ t.readReg .f = some 0x00) := by decide

/-- IDU-8: 3B (DEC SP). -/
theorem test_IDU_8 : after ((started Config.vectors [0x3B] 0x4000) |>.writeReg (.r16 .sp) 0x0000 |>.writeReg .f 0xFF)
    (fun t => t.readReg (.r16 .sp) = some 0xFFFF ∧ t.readReg .f = some 0xFF) := by decide

/-- IDU-9: 34 (INC (HL)). -/
theorem test_IDU_9 : after ((started Config.vectors [0x34] 0x4000) |>.writeReg (.r16 .hl) 0x4100
      |>.pokeByte 0x4100 0x41 |>.writeReg .f 0x02)
    (fun t => t.peekByte 0x4100 = 0x42 ∧ t.readReg .f = some 0x02) := by decide

/-- IDU-12: 35 (DEC (HL)). -/
theorem test_IDU_12 : after ((started Config.vectors [0x35] 0x4000) |>.writeReg (.r16 .hl) 0x4100
      |>.pokeByte 0x4100 0x80)
    (fun t => t.peekByte 0x4100 = 0x7F ∧ t.readReg .f = some 0x02) := by decide

/-- IDU-13: 2D (DEC L). -/
theorem test_IDU_13 : after ((started Config.vectors [0x2D] 0x4000) |>.writeReg (.r8 .l) 0x10 |>.writeReg .f 0x14)
    (fun t => t.readReg (.r8 .l) = some 0x0F ∧ t.readReg .f = some 0x16) := by decide

/-- ROT-2: 07 (RLCA). -/
theorem test_ROT_2 : after ((started Config.vectors [0x07] 0x4000) |>.writeReg (.r8 .a) 0x00 |>.writeReg .f 0x01)
    (fun t => t.readReg (.r8 .a) = some 0x00 ∧ t.readReg .f = some 0x00) := by decide

/-- ROT-4: 0F (RRCA). -/
theorem test_ROT_4 : after ((started Config.vectors [0x0F] 0x4000) |>.writeReg (.r8 .a) 0x02 |>.writeReg .f 0xFF)
    (fun t => t.readReg (.r8 .a) = some 0x01 ∧ t.readReg .f = some 0xFE) := by decide

/-- ROT-6: 17 (RLA). -/
theorem test_ROT_6 : after ((started throughCarry [0x17] 0x4000) |>.writeReg (.r8 .a) 0x01 |>.writeReg .f 0x01)
    (fun t => t.readReg (.r8 .a) = some 0x03 ∧ t.readReg .f = some 0x00) := by decide

/-- ROT-7: 1F (RRA). -/
theorem test_ROT_7 : after ((started throughCarry [0x1F] 0x4000) |>.writeReg (.r8 .a) 0x01 |>.writeReg .f 0x01)
    (fun t => t.readReg (.r8 .a) = some 0x80 ∧ t.readReg .f = some 0x01) := by decide

/-- CF-1: 37 (SCF). -/
theorem test_CF_1 : after ((started Config.vectors [0x37] 0x4000) |>.writeReg .f 0xD6)
    (fun t => t.readReg .f = some 0xC5) := by decide

/-- CF-2: 3F (CCF). -/
theorem test_CF_2 : after ((started Config.vectors [0x3F] 0x4000) |>.writeReg .f 0x01)
    (fun t => t.readReg .f = some 0x10) := by decide

/-- CF-4: 2F (CPL). -/
theorem test_CF_4 : after ((started Config.vectors [0x2F] 0x4000) |>.writeReg (.r8 .a) 0x5A)
    (fun t => t.readReg (.r8 .a) = some 0xA5 ∧ t.readReg .f = some 0x12) := by decide

/-- CTL-1: C3 34 12 (JP 1234). -/
theorem test_CTL_1 : after (started Config.vectors [0xC3, 0x34, 0x12] 0x4000)
    (fun t => t.pc = 0x1234) := by decide

/-- CTL-3: C2 00 41 (JP NZ,4100). -/
theorem test_CTL_3 : after ((started Config.vectors [0xC2, 0x00, 0x41] 0x4000) |>.writeReg .f 0x40)
    (fun t => t.pc = 0x4003) := by decide

/-- CTL-5: DA 00 41 (JP C,4100). -/
theorem test_CTL_5 : after ((started Config.vectors [0xDA, 0x00, 0x41] 0x4000) |>.writeReg .f 0xFE)
    (fun t => t.pc = 0x4003) := by decide

/-- CTL-8: 18 80 (JR −128). -/
theorem test_CTL_8 : after (started Config.vectors [0x18, 0x80] 0x4000)
    (fun t => t.pc = 0x3F82) := by decide

/-- CTL-10: 18 03 (JR +3). -/
theorem test_CTL_10 : after (started Config.vectors [0x18, 0x03] 0xFFFE)
    (fun t => t.pc = 0x0003) := by decide

/-- CTL-13: 30 F0 (JR NC,−16). -/
theorem test_CTL_13 : after ((started Config.vectors [0x30, 0xF0] 0x4000) |>.writeReg .f 0x01)
    (fun t => t.pc = 0x4002) := by decide

/-- CTL-16: 10 FE (DJNZ −2). -/
theorem test_CTL_16 : after ((started Config.vectors [0x10, 0xFE] 0x4000) |>.writeReg (.r8 .b) 0x01)
    (fun t => t.readReg (.r8 .b) = some 0x00 ∧ t.pc = 0x4002) := by decide

/-- CTL-17: 10 FE (DJNZ −2). -/
theorem test_CTL_17 : after ((started Config.vectors [0x10, 0xFE] 0x4000) |>.writeReg (.r8 .b) 0x00
      |>.writeReg .f 0x40)
    (fun t => t.readReg (.r8 .b) = some 0xFF ∧ t.pc = 0x4000 ∧ t.readReg .f = some 0x40) := by decide

/-- CTL-18: CD 00 41 (CALL 4100). -/
theorem test_CTL_18 : after (started Config.vectors [0xCD, 0x00, 0x41] 0x4000)
    (fun t => t.pc = 0x4100 ∧ t.readReg (.r16 .sp) = some 0x43FE ∧ t.peekByte 0x43FE = 0x03 ∧
      t.peekByte 0x43FF = 0x40) := by decide

/-- CTL-19: CC 00 41 (CALL Z,4100). -/
theorem test_CTL_19 : after ((started Config.vectors [0xCC, 0x00, 0x41] 0x4000) |>.writeReg .f 0x00)
    (fun t => t.pc = 0x4003 ∧ t.readReg (.r16 .sp) = some 0x4400) := by decide

/-- CTL-21: C4 00 41 (CALL NZ,4100). -/
theorem test_CTL_21 : after ((started Config.vectors [0xC4, 0x00, 0x41] 0x4000) |>.writeReg (.r16 .sp) 0x0001
      |>.writeReg .f 0x00)
    (fun t => t.pc = 0x4100 ∧ t.readReg (.r16 .sp) = some 0xFFFF ∧ t.peekByte 0xFFFF = 0x03 ∧
      t.peekByte 0x0000 = 0x40) := by decide

/-- CTL-22: C9 (RET). -/
theorem test_CTL_22 : after ((started Config.vectors [0xC9] 0x4000) |>.writeReg (.r16 .sp) 0x43FE
      |>.pokeByte 0x43FE 0x03 |>.pokeByte 0x43FF 0x41)
    (fun t => t.pc = 0x4103 ∧ t.readReg (.r16 .sp) = some 0x4400) := by decide

/-- CTL-23: C0 (RET NZ). -/
theorem test_CTL_23 : after ((started Config.vectors [0xC0] 0x4000) |>.writeReg (.r16 .sp) 0x43FE
      |>.pokeByte 0x43FE 0x03 |>.pokeByte 0x43FF 0x41 |>.writeReg .f 0x40)
    (fun t => t.pc = 0x4001 ∧ t.readReg (.r16 .sp) = some 0x43FE) := by decide

/-- CTL-25: FF (RST 38H). -/
theorem test_CTL_25 : after (started Config.vectors [0xFF] 0x4000)
    (fun t => t.pc = 0x0038 ∧ t.readReg (.r16 .sp) = some 0x43FE ∧ t.peekByte 0x43FE = 0x01 ∧
      t.peekByte 0x43FF = 0x40) := by decide

/-- CB-1: CB 78 (BIT 7,B). -/
theorem test_CB_1 : after ((started Config.vectors [0xCB, 0x78] 0x4000) |>.writeReg (.r8 .b) 0x80 |>.writeReg .f 0x01)
    (fun t => t.readReg .f = some 0x11 ∧ t.pc = 0x4002) := by decide

/-- CB-3: CB 5E (BIT 3,(HL)). -/
theorem test_CB_3 : after ((started Config.vectors [0xCB, 0x5E] 0x4000) |>.writeReg (.r16 .hl) 0x4100
      |>.pokeByte 0x4100 0x08 |>.writeReg .f 0xFF)
    (fun t => t.readReg .f = some 0xBF ∧ t.peekByte 0x4100 = 0x08) := by decide

/-- CB-5: CB FE (SET 7,(HL)). -/
theorem test_CB_5 : after ((started Config.vectors [0xCB, 0xFE] 0x4000) |>.writeReg (.r16 .hl) 0x4100
      |>.pokeByte 0x4100 0x01)
    (fun t => t.peekByte 0x4100 = 0x81 ∧ t.readReg .f = some 0x00) := by decide

/-- CB-7: CB 86 (RES 0,(HL)). -/
theorem test_CB_7 : after ((started Config.vectors [0xCB, 0x86] 0x4000) |>.writeReg (.r16 .hl) 0x4100
      |>.pokeByte 0x4100 0x01 |>.writeReg .f 0xFF)
    (fun t => t.peekByte 0x4100 = 0x00 ∧ t.readReg .f = some 0xFF) := by decide

/-- CB-8: CB 38 (SRL B). -/
theorem test_CB_8 : after ((started Config.vectors [0xCB, 0x38] 0x4000) |>.writeReg (.r8 .b) 0x01 |>.writeReg .f 0xFF)
    (fun t => t.readReg (.r8 .b) = some 0x00 ∧ t.readReg .f = some 0x41) := by decide

/-- CB-10: CB 3E (SRL (HL)). -/
theorem test_CB_10 : after ((started Config.vectors [0xCB, 0x3E] 0x4000) |>.writeReg (.r16 .hl) 0x4100
      |>.pokeByte 0x4100 0xFE |>.writeReg .f 0xFF)
    (fun t => t.peekByte 0x4100 = 0x7F ∧ t.readReg .f = some 0x00) := by decide

/-- ED-1: ED 44 (NEG). -/
theorem test_ED_1 : after ((started Config.vectors [0xED, 0x44] 0x4000) |>.writeReg (.r8 .a) 0x01)
    (fun t => t.readReg (.r8 .a) = some 0xFF ∧ t.readReg .f = some 0x93 ∧ t.pc = 0x4002) := by decide

/-- ED-2: ED 44 (NEG). -/
theorem test_ED_2 : after ((started Config.vectors [0xED, 0x44] 0x4000) |>.writeReg (.r8 .a) 0x80)
    (fun t => t.readReg (.r8 .a) = some 0x80 ∧ t.readReg .f = some 0x87) := by decide

/-- ED-5: ED 5B FF FF (LD DE,(FFFF)). -/
theorem test_ED_5 : after ((started Config.vectors [0xED, 0x5B, 0xFF, 0xFF] 0x4000) |>.pokeByte 0xFFFF 0x78
      |>.pokeByte 0x0000 0x56)
    (fun t => t.readReg (.r16 .de) = some 0x5678) := by decide

/-- ED-6: ED 43 00 42 (LD (4200),BC). -/
theorem test_ED_6 : after ((started Config.vectors [0xED, 0x43, 0x00, 0x42] 0x4000) |>.writeReg (.r16 .bc) 0xCAFE)
    (fun t => t.peekByte 0x4200 = 0xFE ∧ t.peekByte 0x4201 = 0xCA) := by decide

/-- ED-8: ED 7B 00 42 (LD SP,(4200)). -/
theorem test_ED_8 : after ((started Config.vectors [0xED, 0x7B, 0x00, 0x42] 0x4000) |>.pokeByte 0x4200 0xFE
      |>.pokeByte 0x4201 0x43)
    (fun t => t.readReg (.r16 .sp) = some 0x43FE) := by decide

/-- ED-9: ED 73 00 42 (LD (4200),SP). -/
theorem test_ED_9 : after ((started Config.vectors [0xED, 0x73, 0x00, 0x42] 0x4000) |>.writeReg (.r16 .sp) 0x43FE)
    (fun t => t.peekByte 0x4200 = 0xFE ∧ t.peekByte 0x4201 = 0x43) := by decide

/-- IDX-1: DD 21 00 40 (LD IX,4000). -/
theorem test_IDX_1 : after (started Config.vectors [0xDD, 0x21, 0x00, 0x40] 0x4000)
    (fun t => t.readReg (.r16 .ix) = some 0x4000 ∧ t.pc = 0x4004) := by decide

/-- IDX-3: DD 46 FF (LD B,(IX−1)). -/
theorem test_IDX_3 : after ((started Config.vectors [0xDD, 0x46, 0xFF] 0x4000) |>.writeReg (.r16 .ix) 0x4000
      |>.pokeByte 0x3FFF 0x11)
    (fun t => t.readReg (.r8 .b) = some 0x11) := by decide

/-- IDX-4: DD 4E 7F (LD C,(IX+127)). -/
theorem test_IDX_4 : after ((started Config.vectors [0xDD, 0x4E, 0x7F] 0x4000) |>.writeReg (.r16 .ix) 0xFFF0
      |>.pokeByte 0x006F 0x5C)
    (fun t => t.readReg (.r8 .c) = some 0x5C) := by decide

/-- IDX-5: DD 56 80 (LD D,(IX−128)). -/
theorem test_IDX_5 : after ((started Config.vectors [0xDD, 0x56, 0x80] 0x4000) |>.writeReg (.r16 .ix) 0x0010
      |>.pokeByte 0xFF90 0xD0)
    (fun t => t.readReg (.r8 .d) = some 0xD0) := by decide

/-- IDX-6: DD E5 (PUSH IX). -/
theorem test_IDX_6 : after ((started Config.vectors [0xDD, 0xE5] 0x4000) |>.writeReg (.r16 .ix) 0x1234)
    (fun t => t.readReg (.r16 .sp) = some 0x43FE ∧ t.peekByte 0x43FE = 0x34 ∧ t.peekByte 0x43FF = 0x12) := by decide

/-- IDX-7: DD E1 (POP IX). -/
theorem test_IDX_7 : after ((started Config.vectors [0xDD, 0xE1] 0x4000) |>.writeReg (.r16 .sp) 0x43FE
      |>.pokeByte 0x43FE 0x34 |>.pokeByte 0x43FF 0x12)
    (fun t => t.readReg (.r16 .ix) = some 0x1234 ∧ t.readReg (.r16 .sp) = some 0x4400) := by decide

/-- IDX-8: DD 19 (ADD IX,DE). -/
theorem test_IDX_8 : after ((started Config.vectors [0xDD, 0x19] 0x4000) |>.writeReg (.r16 .ix) 0x8000
      |>.writeReg (.r16 .de) 0x8000 |>.writeReg .f 0xFF)
    (fun t => t.readReg (.r16 .ix) = some 0x0000 ∧ t.readReg .f = some 0xED) := by decide

/-! ### HALT, the entry points, the sentinel, decode errors, the limit (95_test_vectors.md sections 2.9 to 2.11) -/

/-- HLT-1. -/
theorem test_HLT_1 : after ((started Config.vectors [0x76] 0x4000).appendKey 0x001C)
    (fun t => t.peekWord 0x4025 = 0x001C ∧ t.queue = [] ∧ t.pc = 0x4001 ∧ t.status = .running) := by decide

/-- HLT-3. -/
theorem test_HLT_3 :
    after { (started Config.vectors [0x76] 0x4000).pokeWord 0x4025 0xFFFF with haltPolicy := true }
    (fun t => t.status = .haltedNoKeys ∧ t.pc = 0x4000 ∧ t.peekWord 0x4025 = 0xFFFF) := by decide

/-- HLT-6. -/
theorem test_HLT_6 : after ((started narrowKeys [0x76] 0x4000).appendKey 0x21)
    (fun t => t.peekWord 0x4025 = 0x0021 ∧ t.pc = 0x4001) := by decide

/-- The start of PRT-1. -/
def atPrint : State :=
  ((started Config.vectors [] 0x0010).writeReg (.r16 .sp) 0x43FE |>.pokeWord 0x43FE 0x4105).writeReg (.r8 .a) 0x2D

/-- PRT-1. -/
theorem test_PRT_1 : after (atPrint.writeReg .f 0x5A)
    (fun t => t.output = ([], [0x2D]) ∧ t.pc = 0x4105 ∧ t.sp = 0x4400 ∧ t.a = 0x2D ∧ t.f = 0x5A) := by decide

/-- PRT-2. -/
theorem test_PRT_2 : after { atPrint with a := 0x76, partialLine := [0x2D, 0x2E] }
    (fun t => t.output = ([[0x2D, 0x2E]], [])) := by decide

/-- The start of CLS-1. -/
def atClear : State :=
  { (started clearing [] 0x0A2A).writeReg (.r16 .sp) 0x43FE |>.pokeWord 0x43FE 0x4105 with
    lines := [[0x01, 0x02]], partialLine := [0x03] }

/-- CLS-1. -/
theorem test_CLS_1 : after atClear
    (fun t => t.output = ([], []) ∧ t.peekByte 0x400E = 0x00 ∧ t.peekByte 0x400F = 0x40 ∧ t.pc = 0x4105 ∧
      t.sp = 0x4400) := by decide

/-- SEN-1, one step. -/
theorem test_SEN_1 : after (started Config.vectors [] 0x0000) (fun t => t.status = .returned ∧ t.counter = 1) := by
  decide

/-- DEC: the byte 0x27 at 0x4000. -/
theorem test_DEC : after ((started Config.vectors [0x27] 0x4000).writeReg (.r8 .a) 0x11)
    (fun t => t.status = .decodeError 0x4000 [0x27] ∧ t.pc = 0x4000 ∧ t.a = 0x11 ∧ t.counter = 1) := by decide

/-- CYC: the limit is checked before the sentinel (R502). -/
theorem test_CYC : after { started Config.vectors [] 0x0000 with counter := 100000 }
    (fun t => t.status = .cycleLimitExceeded 100001) := by decide

/-- R48: under `draw` the settled bits are still as the rule says, and one free byte is drawn. -/
theorem test_draw_keeps_settled_bits : execAfter .inc_b { State.create drawing with b := 0xFF, f := 0x01 }
    (fun t => t.b = 0x00 ∧ t.f &&& 0xE9 = 0x41 ∧ t.draws = 1) := by
  have h : ∀ x : Byte, ((0x41 &&& ~~~(0x16 : Byte)) ||| (x &&& 0x16)) &&& 0xE9 = 0x41 := by decide
  have e : exec .inc_b { State.create drawing with b := 0xFF, f := 0x01 } =
      .next { State.create drawing with
        b := 0x00, f := (0x41 &&& ~~~(0x16 : Byte)) ||| (Config.freeFlags 0 &&& 0x16), draws := 1 } := rfl
  simp only [execAfter, e, h]
  decide

/-! ### Witnesses: what the hypotheses of the statements ask for, met together -/

/-- DecodeOfEncodeIsTheInstruction. -/
theorem witness_wf : Instr.wf Config.vectors (.ld_a_atIX 0x80) = true := by decide

/-- DecodedBytesAreTheEncoding, DecodedLengthIsTheTables: each length. -/
theorem witness_decoded :
    decode Config.vectors 0x41 0x00 0x00 0x00 = .instr .ld_b_c 1 ∧
    decode Config.vectors 0x06 0xFF 0x00 0x00 = .instr (.ld_b_n 0xFF) 2 ∧
    decode Config.vectors 0xDD 0x7E 0x80 0x00 = .instr (.ld_a_atIX 0x80) 3 ∧
    decode Config.vectors 0xED 0x4B 0xFF 0xFF = .instr (.ld_bc_atNN 0xFFFF) 4 := by decide

/-- DecodeErrorReportsItsBytes: each prefix, an index prefix not admitted, no prefix. -/
theorem witness_undecodable :
    decode Config.vectors 0xCB 0x00 0x00 0x00 = .undecodable [0xCB, 0x00] ∧
    decode Config.vectors 0xED 0x00 0x00 0x00 = .undecodable [0xED, 0x00] ∧
    decode Config.vectors 0xDD 0xDD 0x00 0x00 = .undecodable [0xDD, 0xDD] ∧
    decode { Config.vectors with idxPrefixes := [.ix, .iy] } 0xFD 0xFD 0x00 0x00 = .undecodable [0xFD, 0xFD] ∧
    decode Config.vectors 0xFD 0x21 0x00 0x00 = .undecodable [0xFD] ∧
    decode Config.vectors 0xE2 0x00 0x00 0x00 = .undecodable [0xE2] := by decide

/-- ConfigurationSelectsRows: a row with no parameter, a selected and an unselected index load, an unselected rotate. -/
theorem witness_rowSelected :
    rowSelected Config.vectors .nop ∧ rowSelected Config.vectors (.ld_a_atIX 0x05) ∧
      ¬rowSelected Config.vectors (.ld_e_atIX 0x05) ∧ ¬rowSelected Config.vectors .rla ∧
      ¬rowSelected Config.vectors .push_iy := by
  refine ⟨by simp [rowSelected, encode], ?_, fun h => ?_, fun h => ?_, fun h => ?_⟩
  · refine ⟨by simp [encode], by simp [encode], by simp [encode], by simp [encode], fun op rest h => ?_,
      by simp [encode]⟩
    simp only [encode, List.cons.injEq] at h
    obtain ⟨-, rfl, -⟩ := h
    decide
  · exact absurd (h.2.2.2.2.1 _ _ rfl).2 (by decide)
  · exact absurd (h.2.2.1 rfl) (by decide)
  · exact absurd (h.2.2.2.2.2 _ _ rfl).1 (by decide)

/-- A state that takes a step and executes an instruction. -/
def atLoad : State := started Config.vectors [0x41] 0x4000

/-- A state whose next bytes are undecodable. -/
def atError : State := started Config.vectors [0x27] 0x4000

theorem witness_canStep : atLoad.canStep ∧ atPrint.canStep ∧ atClear.canStep := by
  unfold State.canStep
  decide

/-- StepRunsTheDecodedInstruction. -/
theorem witness_step_instruction : atLoad.dispatches ∧
    decode atLoad.cfg (atLoad.readByte atLoad.pc) (atLoad.readByte (atLoad.pc + 1)) (atLoad.readByte (atLoad.pc + 2))
      (atLoad.readByte (atLoad.pc + 3)) = .instr .ld_b_c 1 := by
  unfold State.dispatches State.canStep
  decide

/-- DecodeErrorChangesNothingElse. -/
theorem witness_step_error : atError.dispatches ∧
    decode atError.cfg (atError.readByte atError.pc) (atError.readByte (atError.pc + 1))
      (atError.readByte (atError.pc + 2)) (atError.readByte (atError.pc + 3)) = .undecodable [0x27] := by
  unfold State.dispatches State.canStep
  decide

/-- ChecksThatEndTheRun: the counter at the limit, and one below it with PC at the sentinel. -/
theorem witness_checks :
    (State.canStep { atLoad with counter := 100000 } ∧ atLoad.cfg.cycleLimit < 100000 + 1) ∧
    (State.canStep { atLoad with counter := 99999, pc := 0x0000 } ∧ 99999 < atLoad.cfg.cycleLimit) := by
  unfold State.canStep
  decide

/-- PrintServiceAtItsAddress, ClearScreenAtItsAddress. -/
theorem witness_services :
    (atPrint.canStep ∧ atPrint.counter < atPrint.cfg.cycleLimit ∧ atPrint.pc = atPrint.cfg.printAddr) ∧
    (atClear.canStep ∧ atClear.counter < atClear.cfg.cycleLimit ∧ atClear.pc = atClear.cfg.clsAddr) := by
  unfold State.canStep
  decide

/-- ClearScreenAtItsAddress: an entry no later entry overwrites; an address no entry names. -/
theorem witness_clsInit :
    (atClear.cfg.clsInit = [] ++ (0x400E, 0x00) :: [(0x400F, 0x40)] ∧ ∀ c ∈ [((0x400F : Word), (0x40 : Byte))],
      c.1 ≠ 0x400E) ∧ (∀ c ∈ atClear.cfg.clsInit, c.1 ≠ 0x400D) := by
  have e : atClear.cfg.clsInit = [(0x400E, 0x00), (0x400F, 0x40)] := rfl
  simp [e]

/-- StepStopsOnlyInTheseStates. -/
theorem witness_stops :
    Config.ok { Config.vectors with clsAddr := 0x0000 } = false ∧
    ((State.stop atLoad .returned).cfg.ok = true ∧ (State.stop atLoad .returned).status ≠ .running) ∧
    (State.reset.cfg.ok = true ∧ State.reset.status = .running ∧ State.reset.pcSet = false) := by decide

/-- The state after the step of `atLoad`. -/
def afterLoad : State := { atLoad with counter := 1, pc := 0x4001 }

/-- EveryStepCountsOne, OutputOnlyByEntryPoints, IyKeptWithoutItsPrefix. -/
theorem witness_step_next : step atLoad = .next afterLoad ∧ atLoad.pc ≠ atLoad.cfg.printAddr ∧
    atLoad.pc ≠ atLoad.cfg.clsAddr ∧ IdxReg.iy ∉ atLoad.cfg.idxPrefixes :=
  ⟨rfl, by decide⟩

/-- The memory of `atLoad`: the one byte that is not 0. -/
theorem atLoad_mem : atLoad.mem = [(0x4000, 0x41)] := by decide

/-- EveryStepKeepsInvariant, HostOperationsKeepInvariant. -/
theorem witness_inv : atLoad.Inv where
  mem := by
    rw [atLoad_mem]
    decide
  keys := fun k h => absurd h List.not_mem_nil
  output := ⟨fun line h => absurd h List.not_mem_nil, List.not_mem_nil⟩
  counter := ⟨Nat.zero_le _, fun _ => Nat.zero_le _⟩

/-- A state whose next step ends the run with halted-no-keys. -/
def atStop : State := { (started Config.vectors [0x76] 0x4000).pokeWord 0x4025 0xFFFF with haltPolicy := true }

/-- The memory of `atStop`. -/
theorem atStop_mem : atStop.mem = [(0x4000, 0x76), (0x4025, 0xFF), (0x4026, 0xFF)] := by decide

/-- The memory of `atError`. -/
theorem atError_mem : atError.mem = [(0x4000, 0x27)] := by decide

/-- RunsEndAsTheirOutcomeSays: halted-no-keys. -/
theorem witness_ends_halted : atStop.Inv ∧ atStop.canStep ∧
    step atStop = .next { atStop with counter := 1, status := .haltedNoKeys } := by
  refine ⟨?_, by unfold State.canStep; decide, rfl⟩
  exact
    { mem := by
        rw [atStop_mem]
        decide
      keys := fun k h => absurd h List.not_mem_nil
      output := ⟨fun line h => absurd h List.not_mem_nil, List.not_mem_nil⟩
      counter := ⟨Nat.zero_le _, fun _ => Nat.zero_le _⟩ }

/-- RunsEndAsTheirOutcomeSays: decode-error. -/
theorem witness_ends_decodeError : atError.Inv ∧ atError.canStep ∧
    step atError = .next { atError with counter := 1, status := .decodeError 0x4000 [0x27] } := by
  refine ⟨?_, by unfold State.canStep; decide, rfl⟩
  exact
    { mem := by
        rw [atError_mem]
        decide
      keys := fun k h => absurd h List.not_mem_nil
      output := ⟨fun line h => absurd h List.not_mem_nil, List.not_mem_nil⟩
      counter := ⟨Nat.zero_le _, fun _ => Nat.zero_le _⟩ }

/-- RunsEndAsTheirOutcomeSays: returned, and cycle-limit-exceeded at the limit. -/
theorem witness_ends_before_fetch :
    (State.Inv { State.reset with pcSet := true } ∧ State.canStep { State.reset with pcSet := true } ∧
      step { State.reset with pcSet := true } =
        .next { State.reset with pcSet := true, counter := 1, status := .returned }) ∧
    (State.Inv { State.reset with pcSet := true, counter := 100000 } ∧
      State.canStep { State.reset with pcSet := true, counter := 100000 } ∧
      step { State.reset with pcSet := true, counter := 100000 } =
        .next { State.reset with pcSet := true, counter := 100001, status := .cycleLimitExceeded 100001 }) := by
  have h (n : Nat) (hn : n ≤ 100000) : State.Inv { State.reset with pcSet := true, counter := n } :=
    { mem := ⟨List.Pairwise.nil, fun p h => absurd h List.not_mem_nil⟩
      keys := fun k h => absurd h List.not_mem_nil
      output := ⟨fun line h => absurd h List.not_mem_nil, List.not_mem_nil⟩
      counter := ⟨Nat.le_succ_of_le hn, fun _ => hn⟩ }
  unfold State.canStep
  exact ⟨⟨h 0 (by decide), by decide, rfl⟩, ⟨h 100000 (by decide), by decide, rfl⟩⟩

/-- HostOperationsKeepInvariant: an operation that answers a next state. -/
theorem witness_hostApply : hostApply (.appendKey 0x001C) atLoad = .next (atLoad.appendKey 0x001C) := rfl

/-- EveryRunEnds. -/
theorem witness_config : State.reset.cfg.ok = true := by decide

/-- OnlyHaltConsumesKeys, OutputAndCounterAreNotRead, OnlyStackInstructionsWriteSp. -/
theorem witness_exec : exec .nop atLoad = .next atLoad ∧ Instr.nop ≠ .halt ∧ mayWriteSp .nop = false :=
  ⟨rfl, by decide⟩

/-- LoadWritesTheBlock: the block that wraps at the top of memory, and an address outside it. -/
theorem witness_load :
    ([0x11, 0x22] : List Byte)[0]? = some 0x11 ∧
    (∀ j, 0 < j → j < ([0x11, 0x22] : List Byte).length → (0xFFFF + j) % 65536 ≠ (0xFFFF + 0) % 65536) ∧
    (∀ k, k < ([0x11, 0x22] : List Byte).length → (0xFFFF + k) % 65536 ≠ 0x0001 % 65536) := by
  refine ⟨rfl, fun j h h' => ?_, fun k h => ?_⟩ <;> simp at * <;> omega

/-- HostAccess: a bit other than a flag's own; PC without a value. -/
theorem witness_hostAccess : (5 < 8 ∧ 5 ≠ (match Flag.z with
    | .s => 7 | .z => 6 | .h => 4 | .pv => 2 | .n => 1 | .c => 0)) ∧ State.reset.pcSet = false := by decide

/-- CanonicalMemoryIsUnique. -/
theorem witness_wf_memory : Memory.wf [(0x0000, 0x01), (0xFFFF, 0x02)] := by decide

/-- The lists of forms are not empty: an entry of each, for the statements about them. -/
theorem witness_forms_loads :
    (.ld_b_c, .b, .c) ∈ ldRegForms ∧ (.ld_h_atHL, .h) ∈ ldFromHlForms ∧ (.ld_atHL_h, .h) ∈ ldToHlForms ∧
      (.ld_a_n, .a) ∈ ldImmForms ∧ (.ld_iy_nn, .iy, [0xFD, 0x21]) ∈ ldWideImmForms ∧
      (.ld_sp_atNN, .sp, [0xED, 0x7B]) ∈ ldWideDirectForms ∧ (.ld_atNN_sp, .sp, [0xED, 0x73]) ∈ stWideDirectForms ∧
      (.push_af, .af, [0xF5]) ∈ pushForms ∧ (.pop_iy, .iy, [0xFD, 0xE1]) ∈ popForms := by
  refine ⟨?_, ?_, ?_, ?_, ?_, ?_, ?_, ?_, ?_⟩ <;>
    simp [ldRegForms, ldFromHlForms, ldToHlForms, ldImmForms, ldWideImmForms, ldWideDirectForms, stWideDirectForms,
      pushForms, popForms]

theorem witness_forms_arithmetic :
    (.adc_a_a, .adc, .a) ∈ addRegForms ∧ (.add_a_atHL, .add) ∈ addHlForms ∧ (.adc_a_n, .adc) ∈ addImmForms ∧
      (.cp_b, .cp, .b) ∈ subRegForms ∧ (.sbc_a_atHL, .sbc) ∈ subHlForms ∧ (.sub_n, .sub) ∈ subImmForms ∧
      (.and_a, .and, .a) ∈ logicRegForms ∧ (.or_atHL, .or) ∈ logicHlForms ∧ (.xor_n, .xor) ∈ logicImmForms ∧
      (.add_iy_iy, .iy, .iy, [0xFD, 0x29]) ∈ addWideForms ∧ (.inc_a, .a) ∈ incRegForms ∧ (.dec_l, .l) ∈ decRegForms ∧
      (.inc_sp, .sp, 0x33) ∈ incWideForms ∧ (.dec_bc, .bc, 0x0B) ∈ decWideForms := by
  refine ⟨?_, ?_, ?_, ?_, ?_, ?_, ?_, ?_, ?_, ?_, ?_, ?_, ?_, ?_⟩ <;>
    simp [addRegForms, addHlForms, addImmForms, subRegForms, subHlForms, subImmForms, logicRegForms, logicHlForms,
      logicImmForms, addWideForms, incRegForms, decRegForms, incWideForms, decWideForms]

theorem witness_forms_control :
    (.jp_nz_nn, .nz, 0xC2) ∈ jpIfForms ∧ (.jr_c_e, .c, 0x38) ∈ jrIfForms ∧ (.call_z_nn, .z, 0xCC) ∈ callIfForms ∧
      (.ret_nc, .nc, 0xD0) ∈ retIfForms ∧ (.rst_38, 0x0038, 0xFF) ∈ rstForms := by
  refine ⟨?_, ?_, ?_, ?_, ?_⟩ <;> simp [jpIfForms, jrIfForms, callIfForms, retIfForms, rstForms]

/-- Both outcomes of each condition. -/
theorem witness_conditions : condHolds .nz 0x00 = true ∧ condHolds .nz 0x40 = false ∧ condHolds .z 0x40 = true ∧
    condHolds .z 0xBF = false ∧ condHolds .nc 0xFE = true ∧ condHolds .nc 0x01 = false ∧ condHolds .c 0x01 = true ∧
    condHolds .c 0xFE = false := by decide

theorem witness_forms_pages :
    (.bit_7_a, 7, .a) ∈ bitRegForms ∧ (.bit_0_atHL, 0) ∈ bitHlForms ∧ (.set_0_b, 0, .b) ∈ setRegForms ∧
      (.set_7_atHL, 7) ∈ setHlForms ∧ (.res_3_h, 3, .h) ∈ resRegForms ∧ (.res_7_atHL, 7) ∈ resHlForms ∧
      (.srl_l, .l) ∈ srlRegForms ∧ (.ld_e_atIY, .iy, .e) ∈ ldIdxForms := by
  refine ⟨?_, ?_, ?_, ?_, ?_, ?_, ?_, ?_⟩ <;>
    simp [bitRegForms, bitHlForms, setRegForms, setHlForms, resRegForms, resHlForms, srlRegForms, ldIdxForms]

/-- LdRegisterIndexed: an admitted prefix, with a register that is selected and one that is not. -/
theorem witness_indexed : IdxReg.ix ∈ Config.vectors.idxPrefixes ∧ Reg8.a ∈ Config.vectors.idxLoadRegs ∧
    Reg8.h ∉ Config.vectors.idxLoadRegs := by decide

/-- RotateAccumulator: a rotate that is selected and one that is not. -/
theorem witness_rotates : RotOp.rlca ∈ Config.vectors.rotAccOps ∧ RotOp.rla ∉ Config.vectors.rotAccOps := by decide

/-- The two ways of the unsettled bits (R48), for the statements that use `Unsettled`. -/
theorem witness_unsettled : Config.vectors.unsettledFlagMode = .decided ∧ drawing.unsettledFlagMode = .draw := by
  decide

/-- A state at a HALT with nothing to do, under haltPolicy. -/
def atHalt : State := { (State.create Config.vectors).pokeWord 0x4025 0xFFFF with haltPolicy := true, pc := 0x4001 }

/-- HaltWithNoKeysStops. -/
theorem witness_halt_stops : haltCondition atHalt := by
  unfold haltCondition
  decide

/-- HaltIsAFrameTick: without the policy, with a key queued, with another value in the cell, with a narrow cell. -/
theorem witness_halt_ticks : ¬haltCondition { atHalt with haltPolicy := false } ∧
    ¬haltCondition { atHalt with queue := [0x001C] } ∧ ¬haltCondition (atHalt.pokeWord 0x4025 0x001C) ∧
    (¬haltCondition (State.create narrowKeys) ∧ (State.create narrowKeys).cfg.keyWidth = .one) := by
  unfold haltCondition
  decide

end Sys2Proof.Tests
end

section
/-! The words of 20_memory.md: little-endian words in memory, and the stack that moves them. -/

namespace Sys2Proof.Machine

/-- Dropping what was pushed restores SP, at the wrap included (R95, R96, R81). -/
@[simp] theorem State.sp_dropTop_push16 (s : State) (v : Word) : (s.push16 v).dropTop.sp = s.sp :=
  BitVec.sub_add_cancel s.sp 2

/-- A written word changes the two bytes it stands at and no other (R85). -/
theorem memSameBut_writeWord (s : State) (a v : Word) : MemSameBut [a, a + 1] s (s.writeWord a v) := by
  obtain ⟨-, -, -, -, hmem, -⟩ := onlyMem_writeWord s a v
  exact hmem

/-- A push changes the two bytes under the old SP and no other (R95). -/
theorem memSameBut_push16 (s : State) (v : Word) : MemSameBut [s.sp - 2, s.sp - 1] s (s.push16 v) := by
  obtain ⟨-, -, ⟨-, -, -, hmem, -⟩, -⟩ := push16_frame s v
  exact hmem

/-- A push lowers SP by 2 and leaves the word at the new SP (R95). -/
theorem sp_wordAt_push16 (s : State) (v : Word) :
    (s.push16 v).sp = s.sp - 2 ∧ WordAt (s.push16 v) (s.sp - 2) v := by
  obtain ⟨hsp, hword, -, -⟩ := push16_frame s v
  exact ⟨hsp, hword⟩

/-- Settles O29: each clause is the law of its operation, and the sentinel push is the push of 0x0000. -/
theorem wordsAndTheStack : Obligations.WordsAndTheStack := by
  intro s a v
  obtain ⟨pushSp, pushWord⟩ := sp_wordAt_push16 s v
  refine ⟨?write, ?push, ?pop, ?sentinel⟩
  case write =>
    exact ⟨wordAt_writeWord s a v, memSameBut_writeWord s a v, State.readWord_writeWord s a v, readWord_eq s a⟩
  case push =>
    exact ⟨pushSp, pushWord, memSameBut_push16 s v, State.top16_push16 s v, State.sp_dropTop_push16 s v⟩
  case pop => exact ⟨readWord_eq s s.sp, rfl⟩
  case sentinel => exact sp_wordAt_push16 s 0x0000

end Sys2Proof.Machine
end

section
/-! The loads, the stores, PUSH and the exchange (40_loads_stack.md, with the rows of 0xED and of the index
registers): a row lemma per list of forms says what each listed instruction is encoded as and which shared operation it
runs; the law of that operation then gives the effect and the frame. -/

namespace Sys2Proof.Machine

/-! ### The rows of the lists of forms -/

/-- LD r,r' (R201). -/
theorem ldRegForms_row {i : Instr} {r q : Reg8} (h : (i, r, q) ∈ ldRegForms) :
    encode i = [BitVec.ofNat 8 (0x40 + 8 * selectorOf r + selectorOf q)] ∧
      ∀ s, exec i s = loadReg r (s.reg q) s := by
  fin_cases h <;> exact ⟨rfl, fun _ => rfl⟩

/-- LD r,(HL) (R202): the address is HL before the write, for r = H and r = L too. -/
theorem ldFromHlForms_row {i : Instr} {r : Reg8} (h : (i, r) ∈ ldFromHlForms) :
    encode i = [BitVec.ofNat 8 (0x46 + 8 * selectorOf r)] ∧
      ∀ s, exec i s = loadReg r (s.readByte (wordOf s.h s.l)) s := by
  fin_cases h <;> exact ⟨rfl, fun _ => rfl⟩

/-- LD (HL),r (R203). -/
theorem ldToHlForms_row {i : Instr} {r : Reg8} (h : (i, r) ∈ ldToHlForms) :
    encode i = [BitVec.ofNat 8 (0x70 + selectorOf r)] ∧
      ∀ s, exec i s = storeByte (wordOf s.h s.l) (s.reg r) s := by
  fin_cases h <;> exact ⟨rfl, fun _ => rfl⟩

/-- LD r,n (R204). -/
theorem ldImmForms_row {i : Byte → Instr} {r : Reg8} (h : (i, r) ∈ ldImmForms) (n : Byte) :
    encode (i n) = [BitVec.ofNat 8 (0x06 + 8 * selectorOf r), n] ∧ ∀ s, exec (i n) s = loadReg r n s := by
  fin_cases h <;> exact ⟨rfl, fun _ => rfl⟩

/-- LD rr,nn and LD XY,nn (R210, R211, R411): none of them writes AF. -/
theorem ldWideImmForms_row {i : Word → Instr} {r : Reg16} {op : List Byte} (h : (i, r, op) ∈ ldWideImmForms)
    (nn : Word) :
    r ≠ .af ∧ encode (i nn) = op ++ [loByte nn, hiByte nn] ∧ ∀ s, exec (i nn) s = loadReg16 r nn s := by
  fin_cases h <;> exact ⟨nofun, rfl, fun _ => rfl⟩

/-- LD HL,(nn), LD BC,(nn), LD DE,(nn), LD SP,(nn) (R218, R391, R392, R395): none of them writes AF. -/
theorem ldWideDirectForms_row {i : Word → Instr} {r : Reg16} {op : List Byte}
    (h : (i, r, op) ∈ ldWideDirectForms) (nn : Word) :
    r ≠ .af ∧ encode (i nn) = op ++ [loByte nn, hiByte nn] ∧
      ∀ s, exec (i nn) s = loadReg16 r (s.readWord nn) s := by
  fin_cases h <;> exact ⟨nofun, rfl, fun _ => rfl⟩

/-- LD (nn),HL, LD (nn),BC, LD (nn),DE, LD (nn),SP (R219, R393, R394, R396). -/
theorem stWideDirectForms_row {i : Word → Instr} {r : Reg16} {op : List Byte}
    (h : (i, r, op) ∈ stWideDirectForms) (nn : Word) :
    encode (i nn) = op ++ [loByte nn, hiByte nn] ∧ ∀ s, exec (i nn) s = storeWord nn (s.reg16 r) s := by
  fin_cases h <;> exact ⟨rfl, fun _ => rfl⟩

/-- PUSH qq, PUSH AF, PUSH XY (R230, R232, R412). -/
theorem pushForms_row {i : Instr} {r : Reg16} {op : List Byte} (h : (i, r, op) ∈ pushForms) :
    encode i = op ∧ ∀ s, exec i s = pushReg16 r s := by
  fin_cases h <;> exact ⟨rfl, fun _ => rfl⟩

/-! ### The exchange -/

/-- EX DE,HL as a whole next state (R240): through a word and back, each half keeps its byte. -/
theorem exec_ex_de_hl (s : State) :
    exec .ex_de_hl s = .next { s with d := s.h, e := s.l, h := s.d, l := s.e } := by
  change exchangeDeHl s = _
  simp only [exchangeDeHl, State.setReg16, State.reg16, hiByte_wordOf, loByte_wordOf]

/-- Writing the four halves of DE and HL changes no other register and nothing else. -/
theorem onlyRegs_deHl (s : State) (d e h l : Byte) :
    OnlyRegs [.d, .e, .h, .l] s { s with d := d, e := e, h := h, l := l } := by
  refine ⟨fun r hr => ?regs, fun r hr _ => ?wide, ⟨rfl, rfl⟩, rfl, fun _ _ => rfl,
    ⟨rfl, rfl, rfl, rfl, rfl, rfl, rfl, rfl⟩⟩
  case regs =>
    cases r with
    | a | b | c => rfl
    | d | e | h | l => simp at hr
  case wide =>
    cases r with
    | sp | ix | iy => rfl
    | bc | de | hl | af => simp at hr

/-! ### The obligations -/

/-- Settles O33: each form is `loadReg` on its operand in the old state. -/
theorem ldRegister : Obligations.LdRegister := by
  refine ⟨fun i r q h => ?register, fun i r h => ?memory, fun i r h n => ?immediate⟩
  case register =>
    obtain ⟨henc, hexec⟩ := ldRegForms_row h
    exact ⟨henc, fun s => hexec s ▸ loadReg_spec r (s.reg q) s⟩
  case memory =>
    obtain ⟨henc, hexec⟩ := ldFromHlForms_row h
    exact ⟨henc, fun s => hexec s ▸ loadReg_spec r (s.readByte (wordOf s.h s.l)) s⟩
  case immediate =>
    obtain ⟨henc, hexec⟩ := ldImmForms_row h n
    exact ⟨henc, fun s => hexec s ▸ loadReg_spec r n s⟩

/-- Settles O34: each form is `storeByte` at HL, or `storeWord` at nn. -/
theorem storesWriteTheirBytes : Obligations.StoresWriteTheirBytes := by
  refine ⟨fun i r h => ?register, fun n => ?immediate, fun i r op h nn => ?word⟩
  case register =>
    obtain ⟨henc, hexec⟩ := ldToHlForms_row h
    exact ⟨henc, fun s => hexec s ▸ storeByte_spec (wordOf s.h s.l) (s.reg r) s⟩
  case immediate => exact ⟨rfl, fun s => storeByte_spec (wordOf s.h s.l) n s⟩
  case word =>
    obtain ⟨henc, hexec⟩ := stWideDirectForms_row h nn
    exact ⟨henc, fun s => hexec s ▸ storeWord_spec nn (s.reg16 r) s⟩

/-- Settles O35: the loads are `loadReg` into A, the stores `storeByte` of A. -/
theorem accumulatorIndirect : Obligations.AccumulatorIndirect := by
  refine ⟨rfl, rfl, rfl, rfl, fun s nn => ⟨rfl, rfl, ?fromBC, ?fromDE, ?fromNN, ?toBC, ?toDE, ?toNN⟩⟩
  case fromBC => exact loadReg_spec .a (s.readByte (wordOf s.b s.c)) s
  case fromDE => exact loadReg_spec .a (s.readByte (wordOf s.d s.e)) s
  case fromNN => exact loadReg_spec .a (s.readByte nn) s
  case toBC => exact storeByte_spec (wordOf s.b s.c) s.a s
  case toDE => exact storeByte_spec (wordOf s.d s.e) s.a s
  case toNN => exact storeByte_spec nn s.a s

/-- Settles O36: each form is `loadReg16` of nn, or of the word at nn, into a register other than AF. -/
theorem ldWideRegister : Obligations.LdWideRegister := by
  refine ⟨fun i r op h nn => ?immediate, fun i r op h nn => ?direct⟩
  case immediate =>
    obtain ⟨hr, henc, hexec⟩ := ldWideImmForms_row h nn
    exact ⟨henc, fun s => hexec s ▸ loadReg16_spec r nn s hr⟩
  case direct =>
    obtain ⟨hr, henc, hexec⟩ := ldWideDirectForms_row h nn
    refine ⟨henc, fun s => ?_⟩
    rw [hexec, readWord_eq]
    exact loadReg16_spec r (wordAt s nn) s hr

/-- Settles O37: each form is `pushReg16` of its register. -/
theorem pushStoresTheRegister : Obligations.PushStoresTheRegister := by
  intro i r op h
  obtain ⟨henc, hexec⟩ := pushForms_row h
  exact ⟨henc, fun s => hexec s ▸ pushReg16_spec r s⟩

/-- Settles O39: with the next state written out, the second exchange puts every half back. -/
theorem exchangeSwapsDeAndHl : Obligations.ExchangeSwapsDeAndHl :=
  ⟨rfl, fun s => ⟨_, exec_ex_de_hl s, rfl, rfl, rfl, rfl, onlyRegs_deHl s s.h s.l s.d s.e, exec_ex_de_hl _⟩⟩

end Sys2Proof.Machine
end

section
/-! The 8-bit arithmetic and logic (41_arith_logic.md R270 to R293) and the rotates of A (R310 to R313). Every form
of a family runs the one operation `alu`; `AluRows` says so of the family's three lists, and `AluRows.effects`
carries a law of `alu` over to every form. -/

namespace Sys2Proof.Machine

/-! ### The rows of the lists of forms -/

/-- The three lists of a family hold operations of `ops` alone, encoded as R134 says, and each form is `alu` of its
operation on its operand in the old state. -/
def AluRows (ops : List AluOp) (reg : List (Instr × AluOp × Reg8)) (mem : List (Instr × AluOp))
    (imm : List ((Byte → Instr) × AluOp)) : Prop :=
  (∀ i op r, (i, op, r) ∈ reg → op ∈ ops ∧
    encode i = [BitVec.ofNat 8 (0x80 + 8 * aluField op + selectorOf r)] ∧ ∀ s, exec i s = alu op (s.reg r) s) ∧
  (∀ i op, (i, op) ∈ mem → op ∈ ops ∧
    encode i = [BitVec.ofNat 8 (0x86 + 8 * aluField op)] ∧ ∀ s, exec i s = alu op (s.readByte (wordOf s.h s.l)) s) ∧
  (∀ i op, (i, op) ∈ imm → ∀ n, op ∈ ops ∧
    encode (i n) = [BitVec.ofNat 8 (0xC6 + 8 * aluField op), n] ∧ ∀ s, exec (i n) s = alu op n s)

/-- ADD and ADC (R270 to R275). -/
theorem aluRows_add : AluRows [.add, .adc] addRegForms addHlForms addImmForms := by
  refine ⟨fun i op r h => ?register, fun i op h => ?memory, fun i op h n => ?immediate⟩
  all_goals fin_cases h <;> exact ⟨by decide, rfl, fun _ => rfl⟩

/-- SUB, SBC and CP (R276 to R281, R291 to R293). -/
theorem aluRows_sub : AluRows [.sub, .sbc, .cp] subRegForms subHlForms subImmForms := by
  refine ⟨fun i op r h => ?register, fun i op h => ?memory, fun i op h n => ?immediate⟩
  all_goals fin_cases h <;> exact ⟨by decide, rfl, fun _ => rfl⟩

/-- AND, XOR and OR (R282 to R290). -/
theorem aluRows_logic : AluRows [.and, .xor, .or] logicRegForms logicHlForms logicImmForms := by
  refine ⟨fun i op r h => ?register, fun i op h => ?memory, fun i op h n => ?immediate⟩
  all_goals fin_cases h <;> exact ⟨by decide, rfl, fun _ => rfl⟩

/-- What `alu` does for every operation of a family, each form of the family does on its own operand. -/
theorem AluRows.effects {ops : List AluOp} {reg : List (Instr × AluOp × Reg8)} {mem : List (Instr × AluOp)}
    {imm : List ((Byte → Instr) × AluOp)} (rows : AluRows ops reg mem imm)
    {Effect : AluOp → Byte → State → State → Prop}
    (effect : ∀ op ∈ ops, ∀ v s, ∃ t, alu op v s = .next t ∧ Effect op v s t) :
    (∀ i op r, (i, op, r) ∈ reg → encode i = [BitVec.ofNat 8 (0x80 + 8 * aluField op + selectorOf r)] ∧
      ∀ s : State, ∃ t, exec i s = .next t ∧ Effect op (s.reg r) s t) ∧
    (∀ i op, (i, op) ∈ mem → encode i = [BitVec.ofNat 8 (0x86 + 8 * aluField op)] ∧
      ∀ s : State, ∃ t, exec i s = .next t ∧ Effect op (s.readByte (wordOf s.h s.l)) s t) ∧
    (∀ i op, (i, op) ∈ imm → ∀ n, encode (i n) = [BitVec.ofNat 8 (0xC6 + 8 * aluField op), n] ∧
      ∀ s : State, ∃ t, exec (i n) s = .next t ∧ Effect op n s t) := by
  obtain ⟨register, memory, immediate⟩ := rows
  refine ⟨fun i op r h => ?register, fun i op h => ?memory, fun i op h n => ?immediate⟩
  case register =>
    obtain ⟨hop, henc, hexec⟩ := register i op r h
    exact ⟨henc, fun s => hexec s ▸ effect op hop (s.reg r) s⟩
  case memory =>
    obtain ⟨hop, henc, hexec⟩ := memory i op h
    exact ⟨henc, fun s => hexec s ▸ effect op hop (s.readByte (wordOf s.h s.l)) s⟩
  case immediate =>
    obtain ⟨hop, henc, hexec⟩ := immediate i op h n
    exact ⟨henc, fun s => hexec s ▸ effect op hop n s⟩

/-! ### The three policies -/

/-- A and F become the additive policy's, and nothing else changes (R270, R273). -/
def AddEffect (op : AluOp) (v : Byte) (s t : State) : Prop :=
  (t.a, t.f) = add8 s.a v (decide (op = .adc) && s.f.getLsbD 0) ∧ OnlyRegsAndF [.a] s t

/-- F becomes the subtractive policy's, A its result unless the operation is CP, and nothing else changes (R276, R279,
R291). -/
def SubEffect (op : AluOp) (v : Byte) (s t : State) : Prop :=
  t.f = (sub8 s.a v (decide (op = .sbc) && s.f.getLsbD 0)).2 ∧
    t.a = (if op = .cp then s.a else (sub8 s.a v (decide (op = .sbc) && s.f.getLsbD 0)).1) ∧ OnlyRegsAndF [.a] s t

/-- The bitwise result of AND, XOR and OR (R282, R285, R288). -/
def logicResult (op : AluOp) (a v : Byte) : Byte :=
  if op = .and then a &&& v else if op = .xor then a ^^^ v else a ||| v

/-- A becomes the bitwise result, F has the logical policy's bits of it, and nothing else changes (R263). -/
def LogicEffect (op : AluOp) (v : Byte) (s t : State) : Prop :=
  t.a = logicResult op s.a v ∧
    FlagBits t.f (decide (128 ≤ t.a.toNat)) (decide (t.a = 0)) false (decide (op = .and)) false
      (decide (((List.range 8).filter (fun k => t.a.getLsbD k)).length % 2 = 0)) false false ∧
    OnlyRegsAndF [.a] s t

theorem aluResult_add {op : AluOp} (h : op ∈ [AluOp.add, .adc]) (a v : Byte) (c : Bool) :
    aluResult op a v c = add8 a v (decide (op = .adc) && c) := by
  fin_cases h <;> simp [aluResult]

theorem aluResult_sub {op : AluOp} (h : op ∈ [AluOp.sub, .sbc, .cp]) (a v : Byte) (c : Bool) :
    aluResult op a v c =
      (if op = .cp then a else (sub8 a v (decide (op = .sbc) && c)).1, (sub8 a v (decide (op = .sbc) && c)).2) := by
  fin_cases h <;> simp [aluResult]

theorem aluResult_logic {op : AluOp} (h : op ∈ [AluOp.and, .xor, .or]) (a v : Byte) (c : Bool) :
    aluResult op a v c = (logicResult op a v, logic8 (logicResult op a v) (decide (op = .and))) := by
  fin_cases h <;> rfl

/-- The population count is the number of bit positions that are set. -/
theorem popcount_eq_length_filter (r : Byte) :
    popcount r = ((List.range 8).filter (fun k => r.getLsbD k)).length := by
  have positions : List.range 8 = [0, 1, 2, 3, 4, 5, 6, 7] := rfl
  simp only [popcount, positions, ← List.countP_eq_length_filter, List.countP_cons, List.countP_nil, Bool.toNat,
    Bool.cond_eq_ite]
  omega

/-- The logical policy, bit by bit (R263). -/
theorem flagBits_logic8 (r : Byte) (isAnd : Bool) :
    FlagBits (logic8 r isAnd) (decide (128 ≤ r.toNat)) (decide (r = 0)) false isAnd false
      (decide (((List.range 8).filter (fun k => r.getLsbD k)).length % 2 = 0)) false false := by
  rw [← signBit_eq, ← popcount_eq_length_filter]
  exact flagBits_wholesale ..

theorem alu_addEffect (op : AluOp) (h : op ∈ [AluOp.add, .adc]) (v : Byte) (s : State) :
    ∃ t, alu op v s = .next t ∧ AddEffect op v s t := by
  have spec := alu_spec op v s
  rwa [aluResult_add h] at spec

theorem alu_subEffect (op : AluOp) (h : op ∈ [AluOp.sub, .sbc, .cp]) (v : Byte) (s : State) :
    ∃ t, alu op v s = .next t ∧ SubEffect op v s t := by
  obtain ⟨t, hnext, hresult, hframe⟩ := alu_spec op v s
  rw [aluResult_sub h, Prod.mk.injEq] at hresult
  obtain ⟨ha, hf⟩ := hresult
  exact ⟨t, hnext, hf, ha, hframe⟩

theorem alu_logicEffect (op : AluOp) (h : op ∈ [AluOp.and, .xor, .or]) (v : Byte) (s : State) :
    ∃ t, alu op v s = .next t ∧ LogicEffect op v s t := by
  obtain ⟨t, hnext, hresult, hframe⟩ := alu_spec op v s
  rw [aluResult_logic h, Prod.mk.injEq] at hresult
  obtain ⟨ha, hf⟩ := hresult
  rw [← ha] at hf
  exact ⟨t, hnext, ha, hf ▸ flagBits_logic8 t.a (decide (op = .and)), hframe⟩

/-! ### The rotates -/

/-- A cell of the map that `rotAccOps` selects (R151), and the byte reported when it does not (R150). -/
theorem finish_admittedRot (cfg : Config) (op : RotOp) (i : Instr) (b p q : Byte) :
    (admitted (cfg.admitsRot op) (.one i)).finish [b] p q =
      if op ∈ cfg.rotAccOps then .instr i 1 else .undecodable [b] := by
  by_cases h : op ∈ cfg.rotAccOps <;> simp [admitted, Config.admitsRot, Entry.finish, h]

/-- The rows of RLCA, RRCA, RLA and RRA (R140): each decodes through its own cell. -/
theorem rotate_row (cfg : Config) {i : Instr} {op : RotOp} {b : Byte}
    (h : (i, op, b) ∈ [(Instr.rlca, RotOp.rlca, (0x07 : Byte)), (.rrca, .rrca, 0x0F), (.rla, .rla, 0x17),
      (.rra, .rra, 0x1F)]) :
    encode i = [b] ∧ decodeBytes cfg [b] = (admitted (cfg.admitsRot op) (.one i)).finish [b] 0 0 := by
  fin_cases h <;> exact ⟨rfl, rfl⟩

/-- A byte shifted left with a bit put in below. -/
theorem toNat_shiftLeft_or (a : Byte) (c : Bool) :
    ((a <<< 1) ||| (if c then 0x01 else 0x00)).toNat = (a.toNat * 2 + c.toNat) % 256 := by
  revert a c
  decide

/-- A byte shifted right with a bit put in above. -/
theorem toNat_shiftRight_or (a : Byte) (c : Bool) :
    ((a >>> 1) ||| (if c then 0x80 else 0x00)).toNat = a.toNat / 2 + 128 * c.toNat := by
  revert a c
  decide

theorem toNat_bit7 (a : Byte) : (a.getLsbD 7).toNat = a.toNat / 128 := by
  have hlt := a.isLt
  rw [BitVec.getLsbD, Nat.toNat_testBit]
  omega

theorem toNat_bit0 (a : Byte) : (a.getLsbD 0).toNat = a.toNat % 2 := by
  rw [BitVec.getLsbD, Nat.toNat_testBit, Nat.pow_zero, Nat.div_one]

/-- Writing the Carry keeps the seven other bits of F. -/
theorem flagBits_setFlag_c (f : Byte) (c : Bool) :
    FlagBits (setFlag f .c c) (f.getLsbD 7) (f.getLsbD 6) (f.getLsbD 5) (f.getLsbD 4) (f.getLsbD 3) (f.getLsbD 2)
      (f.getLsbD 1) c := by
  simp only [FlagBits, bit_setFlag, reduceCtorEq, if_true, if_false, and_self]

/-- A rotate whose result is n and whose bit out is c. -/
theorem rotateA_effect {op : RotOp} {s : State} {n : Nat} {c : Bool}
    (hvalue : (rotated op s.a (s.f.getLsbD 0)).1.toNat = n) (hcarry : (rotated op s.a (s.f.getLsbD 0)).2 = c) :
    ∃ t, rotateA op s = .next t ∧ t.a.toNat = n ∧
      FlagBits t.f (s.f.getLsbD 7) (s.f.getLsbD 6) (s.f.getLsbD 5) (s.f.getLsbD 4) (s.f.getLsbD 3) (s.f.getLsbD 2)
        (s.f.getLsbD 1) c ∧ OnlyRegsAndF [.a] s t := by
  obtain ⟨t, hnext, ha, hf, hframe⟩ := rotateA_spec op s
  rw [hcarry] at hf
  exact ⟨t, hnext, ha ▸ hvalue, hf ▸ flagBits_setFlag_c s.f c, hframe⟩

/-! ### The obligations -/

/-- Settles O40: each form is `alu` on its operand, and ADD and ADC of `alu` are the additive policy. -/
theorem addWritesAccumulatorAndFlags : Obligations.AddWritesAccumulatorAndFlags :=
  aluRows_add.effects alu_addEffect

/-- Settles O41: each form is `alu` on its operand, and SUB, SBC and CP of `alu` are the subtractive policy. -/
theorem subtractWritesAccumulatorAndFlags : Obligations.SubtractWritesAccumulatorAndFlags :=
  aluRows_sub.effects alu_subEffect

/-- Settles O42: each form is `alu` on its operand, and AND, XOR and OR of `alu` are the logical policy. -/
theorem logicWritesAccumulatorAndFlags : Obligations.LogicWritesAccumulatorAndFlags :=
  aluRows_logic.effects alu_logicEffect

/-- Settles O48: each row is the cell its rotate selects, and each rotate shifts one bit in and one out. -/
theorem rotateAccumulator : Obligations.RotateAccumulator := by
  refine ⟨fun cfg i op b h => ?row, fun s => ⟨?rlca, ?rrca, ?rla, ?rra⟩⟩
  case row =>
    obtain ⟨henc, hdec⟩ := rotate_row cfg h
    exact ⟨henc, hdec.trans (finish_admittedRot cfg op i b 0 0)⟩
  case rlca => exact rotateA_effect (toNat_bit7 s.a ▸ toNat_shiftLeft_or s.a (s.a.getLsbD 7)) rfl
  case rrca => exact rotateA_effect (toNat_bit0 s.a ▸ toNat_shiftRight_or s.a (s.a.getLsbD 0)) rfl
  case rla => exact rotateA_effect (toNat_shiftLeft_or s.a (s.f.getLsbD 0)) rfl
  case rra => exact rotateA_effect (toNat_shiftRight_or s.a (s.f.getLsbD 0)) rfl

end Sys2Proof.Machine
end

section
/-! Absolute jumps, calls and returns (42_control.md R331 to R333, R337 to R341): a conditional form runs its
unconditional operation where the condition holds, and otherwise leaves the state as it is. -/

namespace Sys2Proof.Machine

/-! ### Conditions -/

/-- `cond(cc)` reads the bit of F that the condition tests (R331, R36). -/
theorem State.cond_eq_condHolds (s : State) (cc : Cond) : s.cond cc = condHolds cc s.f := by
  cases cc <;> simp [State.cond, State.flag, getFlag_eq_bit, flagBit, condHolds]

/-- A jump not taken is a jump to the PC past the instruction (R333, R335). -/
theorem jumpIf_eq_jump (cc : Cond) (a : Word) (s : State) :
    jumpIf cc a s = jump (if condHolds cc s.f then a else s.pc) s := by
  rw [jumpIf, State.cond_eq_condHolds]
  split <;> rfl

/-- CALL cc,nn is CALL nn or nothing (R338). -/
theorem callIf_eq_call (cc : Cond) (a : Word) (s : State) :
    callIf cc a s = if condHolds cc s.f then call a s else .next s := by
  rw [callIf, State.cond_eq_condHolds]
  split <;> rfl

/-- RET cc is RET or nothing (R340). -/
theorem retIf_eq_ret (cc : Cond) (s : State) : retIf cc s = if condHolds cc s.f then ret s else .next s := by
  rw [retIf, State.cond_eq_condHolds]
  split <;> rfl

/-- A meaning that runs only under a condition has its effect then, and otherwise changes nothing. -/
theorem effect_or_unchanged {r : Result} {Effect : State → Prop} (effect : ∃ t, r = .next t ∧ Effect t)
    (taken : Bool) (s : State) :
    ∃ t, (if taken then r else .next s) = .next t ∧ if taken then Effect t else t = s := by
  cases taken with
  | true => exact effect
  | false => exact ⟨s, rfl, rfl⟩

/-! ### The rows of the lists of forms -/

/-- JP cc,nn (R333). -/
theorem jpIfForms_row {i : Word → Instr} {cc : Cond} {b : Byte} (h : (i, cc, b) ∈ jpIfForms) (nn : Word) :
    encode (i nn) = [b, loByte nn, hiByte nn] ∧ ∀ s, exec (i nn) s = jumpIf cc nn s := by
  fin_cases h <;> exact ⟨rfl, fun _ => rfl⟩

/-- CALL cc,nn (R338). -/
theorem callIfForms_row {i : Word → Instr} {cc : Cond} {b : Byte} (h : (i, cc, b) ∈ callIfForms) (nn : Word) :
    encode (i nn) = [b, loByte nn, hiByte nn] ∧ ∀ s, exec (i nn) s = callIf cc nn s := by
  fin_cases h <;> exact ⟨rfl, fun _ => rfl⟩

/-- RET cc (R340). -/
theorem retIfForms_row {i : Instr} {cc : Cond} {b : Byte} (h : (i, cc, b) ∈ retIfForms) :
    encode i = [b] ∧ ∀ s, exec i s = retIf cc s := by
  fin_cases h <;> exact ⟨rfl, fun _ => rfl⟩

/-- RST p (R341): a call of its vector. -/
theorem rstForms_row {i : Instr} {p : Word} {b : Byte} (h : (i, p, b) ∈ rstForms) :
    encode i = [b] ∧ ∀ s, exec i s = call p s := by
  fin_cases h <;> exact ⟨rfl, fun _ => rfl⟩

/-! ### The obligations -/

/-- Settles O50: each form is `jump`, a conditional one to nn or to the PC past the instruction. -/
theorem absoluteJumpsWriteOnlyPc : Obligations.AbsoluteJumpsWriteOnlyPc := by
  refine ⟨fun nn => ⟨rfl, jump_spec nn⟩, fun i cc b h nn => ?conditional⟩
  case conditional =>
    obtain ⟨henc, hexec⟩ := jpIfForms_row h nn
    refine ⟨henc, fun s => ?_⟩
    rw [hexec, jumpIf_eq_jump]
    exact jump_spec (if condHolds cc s.f then nn else s.pc) s

/-- Settles O52: each form is `call`, of its vector for RST, or nothing where the condition fails. -/
theorem callsPushTheReturnAddress : Obligations.CallsPushTheReturnAddress := by
  refine ⟨fun nn => ⟨rfl, call_spec nn⟩, fun i cc b h nn => ?conditional, fun i p b h => ?restart⟩
  case conditional =>
    obtain ⟨henc, hexec⟩ := callIfForms_row h nn
    refine ⟨henc, fun s => ?_⟩
    rw [hexec, callIf_eq_call]
    exact effect_or_unchanged (call_spec nn s) (condHolds cc s.f) s
  case restart =>
    obtain ⟨henc, hexec⟩ := rstForms_row h
    exact ⟨henc, fun s => hexec s ▸ call_spec p s⟩

/-- Settles O53: each form is `ret`, or nothing where the condition fails. -/
theorem returnsPopThePc : Obligations.ReturnsPopThePc := by
  refine ⟨⟨rfl, ret_spec⟩, fun i cc b h => ?conditional⟩
  case conditional =>
    obtain ⟨henc, hexec⟩ := retIfForms_row h
    refine ⟨henc, fun s => ?_⟩
    rw [hexec, retIf_eq_ret]
    exact effect_or_unchanged (ret_spec s) (condHolds cc s.f) s

end Sys2Proof.Machine
end

section
/-! The bit-operations page 0xCB (R360 to R369): BIT runs `testBit`, SET and RES load or store a byte
that differs from the old one at one bit, and SRL runs `shiftReg` or `shiftMem`. -/

namespace Sys2Proof.Machine

/-! ### The rows of the lists of forms -/

/-- BIT b,r (R360). -/
theorem bitRegForms_row {i : Instr} {b : Nat} {r : Reg8} (h : (i, b, r) ∈ bitRegForms) :
    ∃ hb : b < 8, encode i = [0xCB, BitVec.ofNat 8 (0x40 + 8 * b + selectorOf r)] ∧
      ∀ s, exec i s = testBit ⟨b, hb⟩ (s.reg r) s := by
  fin_cases h <;> exact ⟨by decide, rfl, fun _ => rfl⟩

/-- BIT b,(HL) (R361). -/
theorem bitHlForms_row {i : Instr} {b : Nat} (h : (i, b) ∈ bitHlForms) :
    ∃ hb : b < 8, encode i = [0xCB, BitVec.ofNat 8 (0x46 + 8 * b)] ∧
      ∀ s, exec i s = testBit ⟨b, hb⟩ (s.readByte (wordOf s.h s.l)) s := by
  fin_cases h <;> exact ⟨by decide, rfl, fun _ => rfl⟩

/-- SET b,r (R362). -/
theorem setRegForms_row {i : Instr} {b : Nat} {r : Reg8} (h : (i, b, r) ∈ setRegForms) :
    ∃ hb : b < 8, encode i = [0xCB, BitVec.ofNat 8 (0xC0 + 8 * b + selectorOf r)] ∧
      ∀ s, exec i s = loadReg r (setBit ⟨b, hb⟩ (s.reg r)) s := by
  fin_cases h <;> exact ⟨by decide, rfl, fun _ => rfl⟩

/-- RES b,r (R364). -/
theorem resRegForms_row {i : Instr} {b : Nat} {r : Reg8} (h : (i, b, r) ∈ resRegForms) :
    ∃ hb : b < 8, encode i = [0xCB, BitVec.ofNat 8 (0x80 + 8 * b + selectorOf r)] ∧
      ∀ s, exec i s = loadReg r (resetBit ⟨b, hb⟩ (s.reg r)) s := by
  fin_cases h <;> exact ⟨by decide, rfl, fun _ => rfl⟩

/-- SET b,(HL) (R363). -/
theorem setHlForms_row {i : Instr} {b : Nat} (h : (i, b) ∈ setHlForms) :
    ∃ hb : b < 8, encode i = [0xCB, BitVec.ofNat 8 (0xC6 + 8 * b)] ∧
      ∀ s, exec i s = storeByte s.hl (setBit ⟨b, hb⟩ (s.readByte s.hl)) s := by
  fin_cases h <;> exact ⟨by decide, rfl, fun _ => rfl⟩

/-- RES b,(HL) (R365). -/
theorem resHlForms_row {i : Instr} {b : Nat} (h : (i, b) ∈ resHlForms) :
    ∃ hb : b < 8, encode i = [0xCB, BitVec.ofNat 8 (0x86 + 8 * b)] ∧
      ∀ s, exec i s = storeByte s.hl (resetBit ⟨b, hb⟩ (s.readByte s.hl)) s := by
  fin_cases h <;> exact ⟨by decide, rfl, fun _ => rfl⟩

/-- SRL r (R368). -/
theorem srlRegForms_row {i : Instr} {r : Reg8} (h : (i, r) ∈ srlRegForms) :
    encode i = [0xCB, BitVec.ofNat 8 (0x38 + selectorOf r)] ∧ ∀ s, exec i s = shiftReg r s := by
  fin_cases h <;> exact ⟨rfl, fun _ => rfl⟩

/-! ### BIT -/

/-- Writing Z and setting H keeps the six other bits of F (R360). -/
theorem flagBits_setFlag_z_h (f : Byte) (z : Bool) :
    FlagBits (setFlag (setFlag f .z z) .h true) (f.getLsbD 7) z (f.getLsbD 5) true (f.getLsbD 3) (f.getLsbD 2)
      (f.getLsbD 1) (f.getLsbD 0) := by
  simp only [FlagBits, bit_setFlag, reduceCtorEq, if_true, if_false, and_self]

/-- BIT, bit by bit of F (R360, R361). -/
theorem testBit_effect (b : Fin 8) (v : Byte) (s : State) :
    ∃ t, testBit b v s = .next t ∧
      FlagBits t.f (s.f.getLsbD 7) (!v.getLsbD b) (s.f.getLsbD 5) true (s.f.getLsbD 3) (s.f.getLsbD 2)
        (s.f.getLsbD 1) (s.f.getLsbD 0) ∧ OnlyRegsAndF [] s t := by
  obtain ⟨t, hnext, hf, hframe⟩ := testBit_spec b v s
  exact ⟨t, hnext, hf ▸ flagBits_setFlag_z_h s.f (!v.getLsbD b), hframe⟩

/-! ### SET and RES -/

/-- `new` has `v` at bit `b` and is `old` at every other bit. -/
def BitWritten (v : Bool) (b : Nat) (old new : Byte) : Prop :=
  new.getLsbD b = v ∧ ∀ k, k < 8 → k ≠ b → new.getLsbD k = old.getLsbD k

theorem getLsbD_bitMask (b : Fin 8) {k : Nat} (hk : k < 8) : (bitMask b).getLsbD k = decide (k = b) := by
  have bits : ∀ b k : Fin 8, (bitMask b).getLsbD k = decide (k.val = b.val) := by decide
  exact bits b ⟨k, hk⟩

theorem setBit_written (b : Fin 8) (old : Byte) : BitWritten true b old (setBit b old) := by
  refine ⟨?bit, fun k hk hne => ?others⟩
  case bit => simp [setBit, getLsbD_bitMask b b.isLt]
  case others => simp [setBit, getLsbD_bitMask b hk, hne]

theorem resetBit_written (b : Fin 8) (old : Byte) : BitWritten false b old (resetBit b old) := by
  refine ⟨?bit, fun k hk hne => ?others⟩
  case bit => simp [resetBit, getLsbD_bitMask b b.isLt]
  case others =>
    rw [resetBit, BitVec.getLsbD_and, BitVec.getLsbD_not, getLsbD_bitMask b hk]
    simp [hk, hne]

/-- SET or RES of a register writes the one bit and no flag (R362, R364). -/
theorem loadReg_bitWritten {v : Bool} {b : Nat} {r : Reg8} {s : State} {new : Byte}
    (hnew : BitWritten v b (s.reg r) new) :
    ∃ t, loadReg r new s = .next t ∧ BitWritten v b (s.reg r) (t.reg r) ∧ OnlyRegs [r] s t := by
  obtain ⟨t, hnext, hr, hframe⟩ := loadReg_spec r new s
  exact ⟨t, hnext, hr.symm ▸ hnew, hframe⟩

/-- SET or RES of a byte of memory writes the one bit and no flag (R363, R365). -/
theorem storeByte_bitWritten {v : Bool} {b : Nat} {a : Word} {s : State} {new : Byte}
    (hnew : BitWritten v b (s.readByte a) new) :
    ∃ t, storeByte a new s = .next t ∧ BitWritten v b (s.readByte a) (t.readByte a) ∧ OnlyMem [a] s t := by
  obtain ⟨t, hnext, ha, hframe⟩ := storeByte_spec a new s
  exact ⟨t, hnext, ha.symm ▸ hnew, hframe⟩

/-! ### SRL -/

theorem toNat_shiftRight_one (v : Byte) : (v >>> 1).toNat = v.toNat / 2 := by
  rw [BitVec.toNat_ushiftRight, Nat.shiftRight_one]

/-- SRL replaces F by Z and C (R368). -/
theorem flagBits_srlFlags (res : Byte) (c : Bool) :
    FlagBits (srlFlags res c) false (decide (res = 0)) false false false false false c :=
  flagBits_wholesale ..

/-- Everything SRL (HL) does: the byte at HL, F, and nothing else (R369). -/
theorem shiftMem_spec (s : State) :
    ∃ t, shiftMem s = .next t ∧ t.readByte s.hl = s.readByte s.hl >>> 1 ∧
      t.f = srlFlags (s.readByte s.hl >>> 1) ((s.readByte s.hl).getLsbD 0) ∧ RegsSame [] s t ∧ WideSame [] s t ∧
      t.draws = s.draws ∧ t.pc = s.pc ∧ MemSameBut [s.hl] s t ∧ SideSame s t := by
  obtain ⟨regs, wide, ⟨-, draws⟩, pc, mem, side⟩ := onlyMem_writeByte s s.hl (s.readByte s.hl >>> 1)
  obtain ⟨regs', wide', -⟩ := onlyRegsAndF_setF (s.writeByte s.hl (s.readByte s.hl >>> 1))
    (srlFlags (s.readByte s.hl >>> 1) ((s.readByte s.hl).getLsbD 0))
  exact ⟨_, rfl, State.readByte_writeByte_same .., rfl, fun r hr => (regs' r hr).trans (regs r hr),
    fun r hr hne => (wide' r hr hne).trans (wide r hr hne), draws, pc, mem, side⟩

/-! ### The obligations -/

/-- Settles O54: each form is `testBit` on its operand. -/
theorem bitTestsOneBit : Obligations.BitTestsOneBit := by
  refine ⟨fun i b r h => ?register, fun i b h => ?memory⟩
  case register =>
    obtain ⟨hb, henc, hexec⟩ := bitRegForms_row h
    exact ⟨henc, fun s => hexec s ▸ testBit_effect ⟨b, hb⟩ (s.reg r) s⟩
  case memory =>
    obtain ⟨hb, henc, hexec⟩ := bitHlForms_row h
    exact ⟨henc, fun s => hexec s ▸ testBit_effect ⟨b, hb⟩ (s.readByte (wordOf s.h s.l)) s⟩

/-- Settles O55: each form loads or stores its operand with the one bit written. -/
theorem setAndResetOneBit : Obligations.SetAndResetOneBit := by
  refine ⟨fun i b r h => ?setRegister, fun i b r h => ?resetRegister, fun i b h => ?setMemory,
    fun i b h => ?resetMemory⟩
  case setRegister =>
    obtain ⟨hb, henc, hexec⟩ := setRegForms_row h
    exact ⟨henc, fun s => hexec s ▸ loadReg_bitWritten (setBit_written ⟨b, hb⟩ (s.reg r))⟩
  case resetRegister =>
    obtain ⟨hb, henc, hexec⟩ := resRegForms_row h
    exact ⟨henc, fun s => hexec s ▸ loadReg_bitWritten (resetBit_written ⟨b, hb⟩ (s.reg r))⟩
  case setMemory =>
    obtain ⟨hb, henc, hexec⟩ := setHlForms_row h
    exact ⟨henc, fun s => hexec s ▸ storeByte_bitWritten (setBit_written ⟨b, hb⟩ (s.readByte s.hl))⟩
  case resetMemory =>
    obtain ⟨hb, henc, hexec⟩ := resHlForms_row h
    exact ⟨henc, fun s => hexec s ▸ storeByte_bitWritten (resetBit_written ⟨b, hb⟩ (s.readByte s.hl))⟩

/-- Settles O56: each form is `shiftReg` of its register, and SRL (HL) is `shiftMem`. -/
theorem shiftRightLogical : Obligations.ShiftRightLogical := by
  refine ⟨fun i r h => ?register, rfl, fun s => ?memory⟩
  case register =>
    obtain ⟨henc, hexec⟩ := srlRegForms_row h
    refine ⟨henc, fun s => ?_⟩
    obtain ⟨t, hnext, hr, hf, hframe⟩ := shiftReg_spec r s
    rw [← hr] at hf
    exact ⟨t, (hexec s).trans hnext, hr ▸ toNat_shiftRight_one (s.reg r), hf ▸ flagBits_srlFlags .., hframe⟩
  case memory =>
    obtain ⟨t, hnext, ha, hf, hframe⟩ := shiftMem_spec s
    rw [← ha] at hf
    exact ⟨t, hnext, ha ▸ toNat_shiftRight_one (s.readByte s.hl), hf ▸ flagBits_srlFlags .., hframe⟩

end Sys2Proof.Machine
end

section
/-! The run loop before decode (60_exceptions.md R501, R502): what the checks answer at each place of their order, and
the step that a check decides. -/

namespace Sys2Proof.Machine

/-- The cycle limit is the first check (R512). -/
theorem beforeDecode_of_cycleLimit_lt {s : State} (hlimit : s.cfg.cycleLimit < s.counter) :
    s.beforeDecode = some (s.stop (.cycleLimitExceeded s.counter)) :=
  if_pos hlimit

/-- The sentinel is the check after the cycle limit (R460, R513). -/
theorem beforeDecode_of_pc_eq_zero {s : State} (hlimit : s.counter ≤ s.cfg.cycleLimit) (hpc : s.pc = 0x0000) :
    s.beforeDecode = some (s.stop .returned) :=
  (if_neg hlimit.not_gt).trans (if_pos hpc)

/-- Where a check before decode applies to the raised counter, its answer is the whole step (R501, R502). -/
theorem step_of_beforeDecode {s t : State} (hs : s.canStep) (hcheck : s.tick.beforeDecode = some t) :
    step s = .next t := by
  obtain ⟨hok, hrunning, hpcSet⟩ := hs
  simp [step, hok, hrunning, hpcSet, hcheck]

/-- Settles O9: each clause is the step that its check decides, at the counter that the step has raised. -/
theorem checksThatEndTheRun : Obligations.ChecksThatEndTheRun := by
  refine fun s hs => ⟨fun hlimit => ?cycleLimit, fun hlimit hpc => ?sentinel⟩
  case cycleLimit => exact step_of_beforeDecode hs (beforeDecode_of_cycleLimit_lt hlimit)
  case sentinel => exact step_of_beforeDecode hs (beforeDecode_of_pc_eq_zero hlimit hpc)

end Sys2Proof.Machine
end

section
/-! Decode and encode (30_encoding.md R120 to R154). `Entry.Encodes` says of a cell of the opcode maps that what it
holds is admitted and encoded as the bytes it stands at; it holds of every cell that decode reads (`decode_cell`), which
gives the way from bytes to instructions. `roundTrips` is the way back, from every instruction through its encoding. -/

namespace Sys2Proof

open Machine

/-! ### The cells of the opcode maps -/

/-- What a cell at the opcode bytes `op` holds is admitted and is encoded as `op` with its operand after it. -/
inductive Entry.Encodes (cfg : Config) (op : List Byte) : Entry → Prop
  | one {i : Instr} (hwf : i.wf cfg = true) (henc : encode i = op) : Encodes cfg op (.one i)
  | byte {f : Byte → Instr} (hwf : ∀ p, (f p).wf cfg = true) (henc : ∀ p, encode (f p) = op ++ [p]) :
    Encodes cfg op (.byte f)
  | word {f : Word → Instr} (hwf : ∀ w, (f w).wf cfg = true)
    (henc : ∀ w, encode (f w) = op ++ [loByte w, hiByte w]) : Encodes cfg op (.word f)
  | undef : Encodes cfg op .undef

/-- A cell that the configuration may not select need encode only where it is selected. -/
theorem Entry.Encodes.admitted {cfg : Config} {op : List Byte} {c : Bool} {e : Entry}
    (h : c = true → e.Encodes cfg op) : (Sys2Proof.admitted c e).Encodes cfg op := by
  cases c with
  | true => exact h rfl
  | false => exact .undef

/-- One row of a page written as a chain of opcode bytes. -/
theorem Entry.Encodes.row {cfg : Config} {pre op k : Byte} {a b : Entry} (ha : a.Encodes cfg [pre, k])
    (hb : b.Encodes cfg [pre, op]) : (if op = k then a else b).Encodes cfg [pre, op] := by
  split
  case isTrue h => exact h ▸ ha
  case isFalse => exact hb

/-- An instruction that decode finishes is admitted, and the bytes it was read from begin with its encoding. -/
theorem Entry.Encodes.of_finish {cfg : Config} {op : List Byte} {e : Entry} {p q : Byte} {i : Instr} {n : Nat}
    (h : e.Encodes cfg op) (hfinish : e.finish op p q = .instr i n) :
    i.wf cfg = true ∧ n = (encode i).length ∧ encode i <+: op ++ [p, q] := by
  cases h with
  | one hwf henc =>
    cases hfinish
    exact ⟨hwf, by rw [henc], henc ▸ List.prefix_append _ _⟩
  | byte hwf henc =>
    cases hfinish
    exact ⟨hwf p, by simp [henc], henc p ▸ ⟨[q], by simp⟩⟩
  | word hwf henc =>
    cases hfinish
    exact ⟨hwf _, by simp [henc], by simp [henc]⟩
  | undef => cases hfinish

/-- A cell that decodes to nothing reports its opcode bytes. -/
theorem Entry.finish_undecodable {e : Entry} {op bytes : List Byte} {p q : Byte}
    (h : e.finish op p q = .undecodable bytes) : bytes = op := by
  cases e <;> cases h
  rfl

/-! ### The pages -/

theorem fields_append (op : Byte) : fieldX op ++ fieldY op ++ fieldZ op = op := by
  revert op
  decide

theorem fieldX_cases (n : BitVec 2) : n = 0 ∨ n = 1 ∨ n = 2 ∨ n = 3 := by
  revert n
  decide

theorem field_cases (n : BitVec 3) :
    n = 0 ∨ n = 1 ∨ n = 2 ∨ n = 3 ∨ n = 4 ∨ n = 5 ∨ n = 6 ∨ n = 7 := by
  revert n
  decide

/-- A page read by the field x is its four quarters, each read by y and z (R123). -/
theorem sel4_encodes {cfg : Config} {pre : List Byte} {e0 e1 e2 e3 : BitVec 3 → BitVec 3 → Entry}
    (h0 : ∀ y z, (e0 y z).Encodes cfg (pre ++ [(0 : BitVec 2) ++ y ++ z]))
    (h1 : ∀ y z, (e1 y z).Encodes cfg (pre ++ [(1 : BitVec 2) ++ y ++ z]))
    (h2 : ∀ y z, (e2 y z).Encodes cfg (pre ++ [(2 : BitVec 2) ++ y ++ z]))
    (h3 : ∀ y z, (e3 y z).Encodes cfg (pre ++ [(3 : BitVec 2) ++ y ++ z])) (op : Byte) :
    (sel4 (fieldX op) (e0 (fieldY op) (fieldZ op)) (e1 (fieldY op) (fieldZ op)) (e2 (fieldY op) (fieldZ op))
      (e3 (fieldY op) (fieldZ op))).Encodes cfg (pre ++ [op]) := by
  have quarter : ∀ (x : BitVec 2) (y z : BitVec 3),
      (sel4 x (e0 y z) (e1 y z) (e2 y z) (e3 y z)).Encodes cfg (pre ++ [x ++ y ++ z]) := by
    intro x y z
    obtain rfl | rfl | rfl | rfl := fieldX_cases x
    exacts [h0 y z, h1 y z, h2 y z, h3 y z]
  have cell := quarter (fieldX op) (fieldY op) (fieldZ op)
  rwa [fields_append] at cell

/-- The rotates are the four cells of the quarter that the configuration may not select (R140, R151). -/
theorem page0_rotates_encode (cfg : Config) (y : BitVec 3) :
    (page0 cfg y 7).Encodes cfg [(0 : BitVec 2) ++ y ++ (7 : BitVec 3)] := by
  obtain rfl | rfl | rfl | rfl | rfl | rfl | rfl | rfl := field_cases y
  · exact .admitted fun h => .one h rfl
  · exact .admitted fun h => .one h rfl
  · exact .admitted fun h => .one h rfl
  · exact .admitted fun h => .one h rfl
  · exact .undef
  all_goals exact .one rfl rfl

theorem page0_encodes (cfg : Config) (y z : BitVec 3) :
    (page0 cfg y z).Encodes cfg [(0 : BitVec 2) ++ y ++ z] := by
  obtain rfl | rfl | rfl | rfl | rfl | rfl | rfl | rfl := field_cases z
  case inr.inr.inr.inr.inr.inr.inr => exact page0_rotates_encode cfg y
  all_goals
    obtain rfl | rfl | rfl | rfl | rfl | rfl | rfl | rfl := field_cases y
    all_goals constructor <;> intros <;> rfl

theorem page3_encodes (cfg : Config) (y z : BitVec 3) :
    (page3 y z).Encodes cfg [(3 : BitVec 2) ++ y ++ z] := by
  obtain rfl | rfl | rfl | rfl | rfl | rfl | rfl | rfl := field_cases z
  all_goals
    obtain rfl | rfl | rfl | rfl | rfl | rfl | rfl | rfl := field_cases y
    all_goals constructor <;> intros <;> rfl

/-- The quarters that hold an instruction in every cell, whatever the configuration (R140, R141). -/
theorem fullQuarters_encode (cfg : Config) :
    (∀ y z, (Entry.one (page1 y z)).Encodes cfg [(1 : BitVec 2) ++ y ++ z]) ∧
    (∀ y z, (Entry.one (page2 y z)).Encodes cfg [(2 : BitVec 2) ++ y ++ z]) ∧
    (∀ y z, (Entry.one (bitPage y z)).Encodes cfg [0xCB, (1 : BitVec 2) ++ y ++ z]) ∧
    (∀ y z, (Entry.one (resPage y z)).Encodes cfg [0xCB, (2 : BitVec 2) ++ y ++ z]) ∧
    (∀ y z, (Entry.one (setPage y z)).Encodes cfg [0xCB, (3 : BitVec 2) ++ y ++ z]) := by
  refine ⟨?_, ?_, ?_, ?_, ?_⟩ <;> intro y z
  all_goals
    obtain rfl | rfl | rfl | rfl | rfl | rfl | rfl | rfl := field_cases z
    all_goals
      obtain rfl | rfl | rfl | rfl | rfl | rfl | rfl | rfl := field_cases y
      all_goals exact .one rfl rfl

/-- SRL is the y = 7 row of its quarter, and the seven other rows are no cells (R141, R366). -/
theorem srlRow_encodes (cfg : Config) (y z : BitVec 3) :
    (if y = 7 then Entry.one (srlRow z) else .undef).Encodes cfg [0xCB, (0 : BitVec 2) ++ y ++ z] := by
  split
  case isTrue h =>
    subst h
    obtain rfl | rfl | rfl | rfl | rfl | rfl | rfl | rfl := field_cases z
    all_goals exact .one rfl rfl
  case isFalse => exact .undef

theorem mainPage_encodes (cfg : Config) (op : Byte) : (mainPage cfg op).Encodes cfg [op] := by
  obtain ⟨loads, alu, -⟩ := fullQuarters_encode cfg
  exact sel4_encodes (pre := []) (e1 := fun y z => .one (page1 y z)) (e2 := fun y z => .one (page2 y z))
    (page0_encodes cfg) loads alu (page3_encodes cfg) op

theorem cbPage_encodes (cfg : Config) (op2 : Byte) : (cbPage op2).Encodes cfg [0xCB, op2] := by
  obtain ⟨-, -, bit, res, set⟩ := fullQuarters_encode cfg
  exact sel4_encodes (pre := [0xCB]) (e0 := fun y z => if y = 7 then .one (srlRow z) else .undef)
    (e1 := fun y z => .one (bitPage y z)) (e2 := fun y z => .one (resPage y z)) (e3 := fun y z => .one (setPage y z))
    (srlRow_encodes cfg) bit res set op2

/-- The indexed page of either index register (R143). -/
def idxPage (cfg : Config) : IdxReg → Byte → Entry
  | .ix => ixPage cfg
  | .iy => iyPage cfg

theorem edPage_encodes (cfg : Config) (op2 : Byte) : (edPage op2).Encodes cfg [0xED, op2] := by
  unfold edPage
  repeat' apply Entry.Encodes.row
  all_goals constructor <;> intros <;> rfl

/-- On an index page that is admitted, a load is selected by its register and an addition by its pair (R143, R151). -/
theorem idxPage_encodes {cfg : Config} {xy : IdxReg} (hxy : cfg.admitsIdx xy = true) (op2 : Byte) :
    (idxPage cfg xy op2).Encodes cfg [prefixOf xy, op2] := by
  have loadRow {r : Reg8} (hr : decide (r ∈ cfg.idxLoadRegs) = true) : cfg.admitsIdxLoad xy r = true :=
    Bool.and_eq_true_iff.mpr ⟨hxy, hr⟩
  have addRow {pp : IdxPair} (hpp : decide (pp = cfg.idxAddPair) = true) : cfg.admitsIdxAdd xy pp = true :=
    Bool.and_eq_true_iff.mpr ⟨hxy, hpp⟩
  cases xy
  all_goals
    exact .row (.word (fun _ => hxy) fun _ => rfl) <| .row (.one hxy rfl) <| .row (.one hxy rfl) <|
      .row (.admitted fun h => .byte (fun _ => loadRow h) fun _ => rfl) <|
      .row (.admitted fun h => .byte (fun _ => loadRow h) fun _ => rfl) <|
      .row (.admitted fun h => .byte (fun _ => loadRow h) fun _ => rfl) <|
      .row (.admitted fun h => .byte (fun _ => loadRow h) fun _ => rfl) <|
      .row (.admitted fun h => .byte (fun _ => loadRow h) fun _ => rfl) <|
      .row (.admitted fun h => .byte (fun _ => loadRow h) fun _ => rfl) <|
      .row (.admitted fun h => .byte (fun _ => loadRow h) fun _ => rfl) <|
      .row (.admitted fun h => .one (addRow h) rfl) <| .row (.admitted fun h => .one (addRow h) rfl) <|
      .row (.admitted fun h => .one (addRow h) rfl) <| .row (.admitted fun h => .one (addRow h) rfl) .undef

/-- Every decode finishes one cell, whose opcode bytes are the page's and the second byte where the page is admitted,
and else the first byte (R122, R150). -/
theorem decode_cell (cfg : Config) (b0 b1 b2 b3 : Byte) :
    ∃ (e : Entry) (op : List Byte) (p q : Byte), decode cfg b0 b1 b2 b3 = e.finish op p q ∧ e.Encodes cfg op ∧
      op ++ [p, q] <+: [b0, b1, b2, b3] ∧
      op = if b0 = 0xCB ∨ b0 = 0xED ∨ (b0 = 0xDD ∧ IdxReg.ix ∈ cfg.idxPrefixes) ∨
            (b0 = 0xFD ∧ IdxReg.iy ∈ cfg.idxPrefixes)
        then [b0, b1] else [b0] := by
  unfold decode
  split
  case isTrue h =>
    subst h
    exact ⟨_, _, _, _, rfl, cbPage_encodes cfg b1, List.prefix_refl _, rfl⟩
  split
  case isTrue h =>
    subst h
    exact ⟨_, _, _, _, rfl, edPage_encodes cfg b1, List.prefix_refl _, rfl⟩
  split
  case isTrue h =>
    obtain ⟨rfl, hix⟩ := h
    exact ⟨_, _, _, _, rfl, idxPage_encodes (xy := .ix) hix b1, List.prefix_refl _,
      by simpa [Config.admitsIdx] using hix⟩
  split
  case isTrue h =>
    obtain ⟨rfl, hiy⟩ := h
    exact ⟨_, _, _, _, rfl, idxPage_encodes (xy := .iy) hiy b1, List.prefix_refl _,
      by simpa [Config.admitsIdx] using hiy⟩
  case isFalse hcb hed hix hiy =>
    refine ⟨_, _, _, _, rfl, mainPage_encodes cfg b0, ⟨[b3], rfl⟩, ?_⟩
    simp_all [Config.admitsIdx]

/-! ### From bytes to instructions -/

/-- Settles O3: decode finishes a cell, and a cell encodes what it holds. -/
theorem decodedBytesAreTheEncoding : Obligations.DecodedBytesAreTheEncoding := by
  intro cfg b0 b1 b2 b3 i n h
  obtain ⟨e, op, p, q, hdecode, henc, hop, -⟩ := decode_cell cfg b0 b1 b2 b3
  obtain ⟨hwf, hn, hprefix⟩ := henc.of_finish (hdecode ▸ h)
  exact ⟨hwf, hn, hn ▸ List.prefix_iff_eq_take.mp (hprefix.trans hop)⟩

theorem encode_ne_nil (i : Instr) : encode i ≠ [] := by
  cases i <;> nofun

theorem head?_encode_of_decode {cfg : Config} {b0 b1 b2 b3 : Byte} {i : Instr} {n : Nat}
    (h : decode cfg b0 b1 b2 b3 = .instr i n) : (encode i).head? = some b0 := by
  obtain ⟨-, -, henc⟩ := decodedBytesAreTheEncoding cfg b0 b1 b2 b3 i n h
  cases n with
  | zero => exact absurd henc (encode_ne_nil i)
  | succ n => rw [henc]; rfl

/-- Settles O4: decode finishes a cell, and an empty cell reports its opcode bytes. -/
theorem decodeErrorReportsItsBytes : Obligations.DecodeErrorReportsItsBytes := by
  intro cfg b0 b1 b2 b3 bytes h
  obtain ⟨e, op, p, q, hdecode, -, -, hop⟩ := decode_cell cfg b0 b1 b2 b3
  exact (Entry.finish_undecodable (hdecode ▸ h)).trans hop

/-- The table of R154 at every encoding. -/
theorem length_encode (i : Instr) : Laws.EncodedLength.Statement i := by
  cases i <;> rfl

/-- A length of 1 is read from the first byte alone. -/
theorem lengthOf_eq_one {b0 b1 : Byte} (h : lengthOf b0 b1 = 1) (b1' : Byte) : lengthOf b0 b1' = 1 := by
  unfold lengthOf at h ⊢
  grind

/-- Settles O5: the encoding has the length the table says, and its first two bytes are those decoded. -/
theorem decodedLengthIsTheTables : Obligations.DecodedLengthIsTheTables := by
  intro cfg b0 b1 b2 b3 i n h
  obtain ⟨-, hn, henc⟩ := decodedBytesAreTheEncoding cfg b0 b1 b2 b3 i n h
  have hlen := length_encode i
  unfold Laws.EncodedLength.Statement at hlen
  rw [← hn, henc] at hlen
  match n, henc, hlen with
  | 0, henc, _ => exact absurd henc (encode_ne_nil i)
  | 1, _, hlen => exact (lengthOf_eq_one hlen.symm b1).symm
  | n + 2, _, hlen => exact hlen

/-! ### From instructions to bytes -/

theorem Entry.finish_word (f : Word → Instr) (op : List Byte) (w : Word) :
    (Entry.word f).finish op (loByte w) (hiByte w) = .instr (f w) (op.length + 2) := by
  rw [Entry.finish, wordOf_hi_lo]

theorem Entry.finish_admitted (c : Bool) (e : Entry) (op : List Byte) (p q : Byte) :
    (Sys2Proof.admitted c e).finish op p q = if c then e.finish op p q else .undecodable op := by
  cases c <;> rfl

/-- The byte of an index page opens it where the configuration admits it, and is else an error of one byte (R150). -/
theorem decodeBytes_prefixOf (cfg : Config) (xy : IdxReg) (op2 : Byte) (rest : List Byte) :
    decodeBytes cfg (prefixOf xy :: op2 :: rest) =
      if cfg.admitsIdx xy then
        (idxPage cfg xy op2).finish [prefixOf xy, op2] (rest.getD 0 0) (rest.getD 1 0)
      else .undecodable [prefixOf xy] := by
  cases hxy : cfg.admitsIdx xy <;> cases xy <;> simp [decodeBytes, decode, prefixOf, hxy, idxPage] <;> rfl

/-- How many bytes a decode error reports at the encoding of `i` (R150). -/
def errorLength (cfg : Config) (i : Instr) : Nat :=
  if ((encode i).head? = some 0xDD ∧ IdxReg.ix ∈ cfg.idxPrefixes) ∨
    ((encode i).head? = some 0xFD ∧ IdxReg.iy ∈ cfg.idxPrefixes) then 2 else 1

theorem errorLength_prefixOf {cfg : Config} {i : Instr} {xy : IdxReg} (h : (encode i).head? = some (prefixOf xy)) :
    errorLength cfg i = if cfg.admitsIdx xy then 2 else 1 := by
  cases xy <;> simp [errorLength, h, prefixOf, Config.admitsIdx]

/-- What the encoding of `i` decodes to, whatever follows. -/
def RoundTrips (cfg : Config) (i : Instr) : Prop :=
  ∀ rest, decodeBytes cfg (encode i ++ rest) =
    if i.wf cfg then .instr i (encode i).length else .undecodable ((encode i).take (errorLength cfg i))

/-- An instruction of an index page, whose cell the configuration selects by `c`. -/
theorem roundTrips_idx {cfg : Config} {i : Instr} (xy : IdxReg) {op2 : Byte} {args : List Byte} {c : Bool} {e : Entry}
    (henc : encode i = prefixOf xy :: op2 :: args) (hcell : idxPage cfg xy op2 = admitted c e)
    (hwf : i.wf cfg = (cfg.admitsIdx xy && c))
    (hfinish : ∀ rest : List Byte, e.finish [prefixOf xy, op2] ((args ++ rest).getD 0 0) ((args ++ rest).getD 1 0) =
      .instr i (encode i).length) :
    RoundTrips cfg i := by
  intro rest
  rw [errorLength_prefixOf (xy := xy) (by rw [henc]; rfl), hwf]
  rw [henc] at hfinish ⊢
  rw [List.cons_append, List.cons_append, decodeBytes_prefixOf, hcell, Entry.finish_admitted, hfinish]
  cases cfg.admitsIdx xy <;> cases c <;> rfl

/-- Every instruction round-trips where it is admitted, and is reported as an error where it is not (R150, R151). -/
theorem roundTrips (cfg : Config) (i : Instr) : RoundTrips cfg i := by
  cases i
  case ld_ix_nn nn =>
    exact roundTrips_idx .ix (c := true) (e := .word .ld_ix_nn) rfl rfl (Bool.and_true _).symm
      fun _ => Entry.finish_word _ _ nn
  case ld_iy_nn nn =>
    exact roundTrips_idx .iy (c := true) (e := .word .ld_iy_nn) rfl rfl (Bool.and_true _).symm
      fun _ => Entry.finish_word _ _ nn
  case push_ix | pop_ix =>
    exact roundTrips_idx .ix (c := true) (e := .one _) rfl rfl (Bool.and_true _).symm fun _ => rfl
  case push_iy | pop_iy =>
    exact roundTrips_idx .iy (c := true) (e := .one _) rfl rfl (Bool.and_true _).symm fun _ => rfl
  case ld_b_atIX | ld_c_atIX | ld_d_atIX | ld_e_atIX | ld_h_atIX | ld_l_atIX | ld_a_atIX | add_ix_bc | add_ix_de
      | add_ix_ix | add_ix_sp =>
    exact roundTrips_idx .ix rfl rfl rfl fun _ => rfl
  case ld_b_atIY | ld_c_atIY | ld_d_atIY | ld_e_atIY | ld_h_atIY | ld_l_atIY | ld_a_atIY | add_iy_bc | add_iy_de
      | add_iy_iy | add_iy_sp =>
    exact roundTrips_idx .iy rfl rfl rfl fun _ => rfl
  all_goals
    intro rest
    simp only [encode, decodeBytes, List.cons_append, List.nil_append, List.getD_cons_zero, List.getD_cons_succ]
  case rlca | rrca | rla | rra => exact Entry.finish_admitted _ (.one _) [_] _ _
  case ld_bc_nn nn | ld_de_nn nn | ld_hl_nn nn | ld_sp_nn nn | ld_a_atNN nn | ld_atNN_a nn | ld_hl_atNN nn
      | ld_atNN_hl nn | jp_nn nn | jp_nz_nn nn | jp_z_nn nn | jp_nc_nn nn | jp_c_nn nn | call_nn nn | call_nz_nn nn
      | call_z_nn nn | call_nc_nn nn | call_c_nn nn =>
    exact Entry.finish_word _ [_] nn
  case ld_bc_atNN nn | ld_de_atNN nn | ld_sp_atNN nn | ld_atNN_bc nn | ld_atNN_de nn | ld_atNN_sp nn =>
    exact Entry.finish_word _ [_, _] nn
  all_goals rfl

/-- Settles O2: the round trip of an admitted instruction. -/
theorem decodeOfEncodeIsTheInstruction : Obligations.DecodeOfEncodeIsTheInstruction := by
  intro cfg i rest hwf
  rw [roundTrips cfg i rest, if_pos hwf]

/-! ### The rows the configuration selects -/

/-- The second bytes of the indexed rows that the configuration selects (R151). -/
def selectsSecond (cfg : Config) (op : Byte) : Prop :=
  op ∈ [0x21, 0xE1, 0xE5] ∨ (op = 0x09 ∧ cfg.idxAddPair = .bc) ∨ (op = 0x19 ∧ cfg.idxAddPair = .de) ∨
    (op = 0x29 ∧ cfg.idxAddPair = .self) ∨ (op = 0x39 ∧ cfg.idxAddPair = .sp) ∨
    ∃ r ∈ cfg.idxLoadRegs, op = BitVec.ofNat 8 (0x46 + 8 * selectorOf r)

theorem selectsSecond_load (cfg : Config) (r : Reg8) :
    selectsSecond cfg (BitVec.ofNat 8 (0x46 + 8 * selectorOf r)) ↔ r ∈ cfg.idxLoadRegs := by
  have fixed : BitVec.ofNat 8 (0x46 + 8 * selectorOf r) ∉ [0x21, 0xE1, 0xE5, 0x09, 0x19, 0x29, 0x39] := by
    cases r <;> decide
  have injective : ∀ q,
      BitVec.ofNat 8 (0x46 + 8 * selectorOf r) = BitVec.ofNat 8 (0x46 + 8 * selectorOf q) ↔ r = q := by
    intro q
    cases r <;> cases q <;> decide
  simp only [List.mem_cons, List.not_mem_nil, or_false, not_or] at fixed
  simp only [selectsSecond, List.mem_cons, List.not_mem_nil, or_false, fixed, injective, false_and, false_or,
    exists_eq_right']

/-- The second byte of `ADD XY,pp` (R143). -/
def addSecond : IdxPair → Byte
  | .bc => 0x09
  | .de => 0x19
  | .self => 0x29
  | .sp => 0x39

theorem selectsSecond_add (cfg : Config) (pp : IdxPair) :
    selectsSecond cfg (addSecond pp) ↔ pp = cfg.idxAddPair := by
  have hload : ∀ r : Reg8, addSecond pp ≠ BitVec.ofNat 8 (0x46 + 8 * selectorOf r) := by
    intro r
    cases pp <;> cases r <;> decide
  simp only [selectsSecond, hload, and_false, exists_false, or_false]
  cases pp <;> simp [addSecond, eq_comm]

/-- The first bytes whose rows the configuration may not select. -/
def configured (b : Byte) : Bool := decide (b ∈ [0x07, 0x0F, 0x17, 0x1F, 0xDD, 0xFD])

theorem rowSelected_of_not_configured {cfg : Config} {i : Instr} {b : Byte} {rest : List Byte}
    (henc : encode i = b :: rest) (hb : configured b = false) : rowSelected cfg i := by
  have starts {k : Byte} {bs : List Byte} (hk : configured k = true) : encode i ≠ k :: bs := by
    rw [henc]
    rintro ⟨⟩
    exact absurd hk (by rw [hb]; decide)
  exact ⟨fun h => absurd h (starts rfl), fun h => absurd h (starts rfl), fun h => absurd h (starts rfl),
    fun h => absurd h (starts rfl), fun _ _ h => absurd h (starts rfl), fun _ _ h => absurd h (starts rfl)⟩

/-- A row of an index page is selected by the page and its second byte. -/
theorem rowSelected_prefixOf {cfg : Config} {i : Instr} {xy : IdxReg} {op : Byte} {rest : List Byte}
    (henc : encode i = prefixOf xy :: op :: rest) :
    rowSelected cfg i ↔ xy ∈ cfg.idxPrefixes ∧ selectsSecond cfg op := by
  unfold rowSelected
  cases xy <;> simp [henc, prefixOf, selectsSecond]

theorem rowSelected_idx {cfg : Config} {i : Instr} {xy : IdxReg} {op : Byte} {rest : List Byte}
    (hwf : i.wf cfg = cfg.admitsIdx xy) (henc : encode i = prefixOf xy :: op :: rest)
    (hop : selectsSecond cfg op) : rowSelected cfg i ↔ i.wf cfg = true := by
  rw [rowSelected_prefixOf henc, hwf]
  simp [Config.admitsIdx, hop]

theorem rowSelected_idxLoad {cfg : Config} {i : Instr} {xy : IdxReg} {r : Reg8} {rest : List Byte}
    (hwf : i.wf cfg = cfg.admitsIdxLoad xy r)
    (henc : encode i = prefixOf xy :: BitVec.ofNat 8 (0x46 + 8 * selectorOf r) :: rest) :
    rowSelected cfg i ↔ i.wf cfg = true := by
  rw [rowSelected_prefixOf henc, selectsSecond_load, hwf]
  simp [Config.admitsIdxLoad, Config.admitsIdx]

theorem rowSelected_idxAdd {cfg : Config} {i : Instr} {xy : IdxReg} {pp : IdxPair}
    (hwf : i.wf cfg = cfg.admitsIdxAdd xy pp) (henc : encode i = [prefixOf xy, addSecond pp]) :
    rowSelected cfg i ↔ i.wf cfg = true := by
  rw [rowSelected_prefixOf henc, selectsSecond_add, hwf]
  simp [Config.admitsIdxAdd, Config.admitsIdx]

/-- The rows selected from the opcode bytes are those of the admitted instructions (R151). -/
theorem rowSelected_iff (cfg : Config) (i : Instr) : rowSelected cfg i ↔ i.wf cfg = true := by
  cases i
  case rlca | rrca | rla | rra => simp [rowSelected, encode, Instr.wf, Config.admitsRot]
  case ld_ix_nn | pop_ix | push_ix | ld_iy_nn | pop_iy | push_iy =>
    exact rowSelected_idx rfl rfl (.inl (by decide))
  case ld_b_atIX | ld_c_atIX | ld_d_atIX | ld_e_atIX | ld_h_atIX | ld_l_atIX | ld_a_atIX =>
    exact rowSelected_idxLoad rfl rfl
  case ld_b_atIY | ld_c_atIY | ld_d_atIY | ld_e_atIY | ld_h_atIY | ld_l_atIY | ld_a_atIY =>
    exact rowSelected_idxLoad rfl rfl
  case add_ix_bc | add_ix_de | add_ix_ix | add_ix_sp | add_iy_bc | add_iy_de | add_iy_iy | add_iy_sp =>
    exact rowSelected_idxAdd rfl rfl
  all_goals exact iff_of_true (rowSelected_of_not_configured rfl rfl) rfl

/-- Settles O6: a row is selected exactly where its instruction is admitted, and the round trip says the rest. -/
theorem configurationSelectsRows : Obligations.ConfigurationSelectsRows := by
  intro cfg i
  have hdecode := roundTrips cfg i []
  rw [List.append_nil] at hdecode
  rw [rowSelected_iff, hdecode]
  exact ⟨fun hwf => if_pos hwf, fun hwf => if_neg hwf⟩

end Sys2Proof
end

section
/-! What an instruction can do. The meaning of every instruction but HALT is made of the named updates of the state
(`exec_updates`), so what each update keeps, the instruction keeps (`Updates.keeps`, `Updates.withOutput`). HALT is said
once for each of its two ways (R440 to R442). `exec_effect` is what every instruction keeps, HALT included. -/

namespace Sys2Proof.Machine

/-! ### The updates that a meaning is made of -/

/-- The state with another output buffer and another counter. -/
def State.withOutput (s : State) (lines : List (List Byte)) (part : List Byte) (n : Nat) : State :=
  { s with lines := lines, partialLine := part, counter := n }

/-- A reading of the state that does not read the output buffer or the counter. -/
def Blind {α : Sort*} (v : State → α) : Prop := ∀ s lines part n, v (s.withOutput lines part n) = v s

/-- The 16-bit registers that an instruction may write: SP by R40's list, IY on its own page alone (R42). -/
def mayWriteWide (i : Instr) : Reg16 → Bool
  | .sp => mayWriteSp i
  | .iy => (encode i).head? == some 0xFD
  | _ => true

/-- The state transformers that the meanings of the instructions are made of: the named updates of the state, by values
that are blind to the output buffer and the counter, and the choice between two such transformers. -/
inductive Updates (i : Instr) : (State → State) → Prop
  | id : Updates i fun s => s
  | setReg {g : State → State} {r : Reg8} {v : State → Byte} (hg : Updates i g)
    (hv : Blind v := by exact fun _ _ _ _ => rfl) : Updates i fun s => (g s).setReg r (v s)
  | setReg16 {g : State → State} {r : Reg16} {v : State → Word} (hg : Updates i g)
    (hv : Blind v := by exact fun _ _ _ _ => rfl) (hr : mayWriteWide i r = true := by rfl) :
    Updates i fun s => (g s).setReg16 r (v s)
  | setF {g : State → State} {v : State → Byte} (hg : Updates i g)
    (hv : Blind v := by exact fun _ _ _ _ => rfl) : Updates i fun s => (g s).setF (v s)
  | setPc {g : State → State} {v : State → Word} (hg : Updates i g)
    (hv : Blind v := by exact fun _ _ _ _ => rfl) : Updates i fun s => (g s).setPc (v s)
  | writeByte {g : State → State} {a : State → Word} {v : State → Byte} (hg : Updates i g)
    (ha : Blind a := by exact fun _ _ _ _ => rfl) (hv : Blind v := by exact fun _ _ _ _ => rfl) :
    Updates i fun s => (g s).writeByte (a s) (v s)
  | writeWord {g : State → State} {a v : State → Word} (hg : Updates i g)
    (ha : Blind a := by exact fun _ _ _ _ => rfl) (hv : Blind v := by exact fun _ _ _ _ => rfl) :
    Updates i fun s => (g s).writeWord (a s) (v s)
  | push16 {g : State → State} {v : State → Word} (hg : Updates i g)
    (hv : Blind v := by exact fun _ _ _ _ => rfl) (hsp : mayWriteWide i .sp = true := by rfl) :
    Updates i fun s => (g s).push16 (v s)
  | dropTop {g : State → State} (hg : Updates i g) (hsp : mayWriteWide i .sp = true := by rfl) :
    Updates i fun s => (g s).dropTop
  | settle {g : State → State} {m : Byte} (hg : Updates i g) : Updates i fun s => (g s).settle m
  | cond {g h : State → State} {c : State → Prop} [DecidablePred c] (hg : Updates i g) (hh : Updates i h)
    (hc : Blind c := by exact fun _ _ _ _ => rfl) : Updates i fun s => if c s then g s else h s

/-! ### What an update keeps -/

/-- What every instruction but HALT keeps: all that is no register, flag or memory; the canonical form of memory; SP and
IY, where the instruction may not write them. -/
structure Keeps (i : Instr) (s t : State) : Prop where
  side : SideSame s t
  mem : s.mem.wf → t.mem.wf
  wide : ∀ r, mayWriteWide i r = false → t.reg16 r = s.reg16 r

theorem Keeps.trans {i : Instr} {s t u : State} (h : Keeps i s t) (h' : Keeps i t u) : Keeps i s u := by
  obtain ⟨⟨a1, a2, a3, a4, a5, a6, a7, a8⟩, mem, wide⟩ := h
  obtain ⟨⟨b1, b2, b3, b4, b5, b6, b7, b8⟩, mem', wide'⟩ := h'
  exact ⟨⟨b1.trans a1, b2.trans a2, b3.trans a3, b4.trans a4, b5.trans a5, b6.trans a6, b7.trans a7, b8.trans a8⟩,
    fun hm => mem' (mem hm), fun r hr => (wide' r hr).trans (wide r hr)⟩

theorem SideSame.refl (s : State) : SideSame s s := ⟨rfl, rfl, rfl, rfl, rfl, rfl, rfl, rfl⟩

/-- An instruction may write every 16-bit register but SP and IY. -/
theorem eq_of_mayWriteWide_false {i : Instr} {r : Reg16} (h : mayWriteWide i r = false) : r = .sp ∨ r = .iy := by
  cases r
  case sp => exact .inl rfl
  case iy => exact .inr rfl
  all_goals cases h

/-- An update that writes neither memory nor a 16-bit register but those of `except`. -/
theorem Keeps.of_frames {i : Instr} {s t : State} {ex : List Reg16} (side : SideSame s t) (mem : s.mem.wf → t.mem.wf)
    (wide : WideSame ex s t) (hex : ∀ r ∈ ex, mayWriteWide i r = true) : Keeps i s t := by
  refine ⟨side, mem, fun r hr => wide r ?_ fun hin => ?_⟩
  · obtain rfl | rfl := eq_of_mayWriteWide_false hr <;> simp
  · exact absurd (hex r hin) (by simp [hr])

theorem keeps_setReg16 {i : Instr} (s : State) {r : Reg16} (v : Word) (hr : mayWriteWide i r = true) :
    Keeps i s (s.setReg16 r v) := by
  refine ⟨by simp [SideSame], by simp, fun q hq => ?wide⟩
  have hne : q ≠ r := by rintro rfl; simp [hr] at hq
  obtain rfl | rfl := eq_of_mayWriteWide_false hq <;> cases r <;> first | rfl | exact absurd rfl hne

theorem keeps_dropTop {i : Instr} (s : State) (hsp : mayWriteWide i .sp = true) : Keeps i s s.dropTop := by
  refine ⟨SideSame.refl s, fun hm => hm, fun q hq => ?wide⟩
  obtain rfl | rfl := eq_of_mayWriteWide_false hq
  · simp [hsp] at hq
  · rfl

theorem keeps_settle (i : Instr) (s : State) (m : Byte) : Keeps i s (s.settle m) := by
  refine ⟨by simp [SideSame], by simp, fun q hq => settle_reg16 s m q ?notAF⟩
  obtain rfl | rfl := eq_of_mayWriteWide_false hq <;> decide

/-- Whatever an instruction is made of, it keeps what every update keeps. -/
theorem Updates.keeps {i : Instr} {g : State → State} (h : Updates i g) (s : State) : Keeps i s (g s) := by
  induction h with
  | id => exact ⟨SideSame.refl s, fun hm => hm, fun _ _ => rfl⟩
  | setReg _ _ ih =>
    obtain ⟨-, wide, -, -, -, side⟩ := onlyRegs_setReg _ _ _
    exact ih.trans (.of_frames side (by simp) wide nofun)
  | setReg16 _ _ hr ih => exact ih.trans (keeps_setReg16 _ _ hr)
  | setF _ _ ih =>
    obtain ⟨-, wide, -, -, -, side⟩ := onlyRegsAndF_setF _ _
    exact ih.trans (.of_frames side (by simp) wide nofun)
  | setPc _ _ ih =>
    obtain ⟨-, wide, -, -, side⟩ := onlyPc_setPc _ _
    exact ih.trans (.of_frames side (by simp) wide nofun)
  | writeByte _ _ _ ih =>
    obtain ⟨-, wide, -, -, -, side⟩ := onlyMem_writeByte _ _ _
    exact ih.trans (.of_frames side (State.wf_writeByte · _ _) wide nofun)
  | writeWord _ _ _ ih =>
    obtain ⟨-, wide, -, -, -, side⟩ := onlyMem_writeWord _ _ _
    exact ih.trans (.of_frames side (State.wf_writeWord · _ _) wide nofun)
  | push16 _ _ hsp ih =>
    obtain ⟨-, -, ⟨-, wide, -, -, side⟩, -⟩ := push16_frame _ _
    exact ih.trans (.of_frames side (State.wf_push16 · _) wide (by simpa using hsp))
  | dropTop _ hsp ih => exact ih.trans (keeps_dropTop _ hsp)
  | settle _ ih => exact ih.trans (keeps_settle i _ _)
  | @cond g h c _ _ _ _ ihg ihh =>
    by_cases hc : c s
    · simpa only [hc, if_true] using ihg
    · simpa only [hc, if_false] using ihh

theorem State.settle_withOutput (s : State) (m : Byte) (lines : List (List Byte)) (part : List Byte) (n : Nat) :
    (s.withOutput lines part n).settle m = (s.settle m).withOutput lines part n := by
  cases hmode : s.cfg.unsettledFlagMode <;> simp [State.settle, State.withOutput, hmode]

/-- Whatever an instruction is made of, it neither reads nor writes the output buffer and the counter (R43, R505). -/
theorem Updates.withOutput {i : Instr} {g : State → State} (h : Updates i g) (s : State) (lines : List (List Byte))
    (part : List Byte) (n : Nat) : g (s.withOutput lines part n) = (g s).withOutput lines part n := by
  induction h with
  | id => rfl
  | @setReg g r v _ hv ih => beta_reduce; rw [ih, hv s]; cases r <;> rfl
  | @setReg16 g r v _ hv _ ih => beta_reduce; rw [ih, hv s]; cases r <;> rfl
  | setF _ hv ih => beta_reduce; rw [ih, hv s]; rfl
  | setPc _ hv ih => beta_reduce; rw [ih, hv s]; rfl
  | writeByte _ ha hv ih => beta_reduce; rw [ih, ha s, hv s]; rfl
  | writeWord _ ha hv ih => beta_reduce; rw [ih, ha s, hv s]; rfl
  | push16 _ hv _ ih => beta_reduce; rw [ih, hv s]; rfl
  | dropTop _ _ ih => beta_reduce; rw [ih]; rfl
  | settle _ ih => beta_reduce; rw [ih, State.settle_withOutput]
  | @cond g h c _ _ _ hc ihg ihh =>
    by_cases hcs : c s
    · simpa only [hc s, hcs, if_true] using ihg
    · simpa only [hc s, hcs, if_false] using ihh

/-- The named updates that make up each instruction but HALT. -/
theorem exec_updates (i : Instr) (hi : i ≠ .halt) : ∃ g, Updates i g ∧ ∀ s, exec i s = .next (g s) := by
  cases i
  case halt => exact absurd rfl hi
  case nop =>
    exact ⟨_, .id, fun _ => rfl⟩
  case add_a_b | add_a_c | add_a_d | add_a_e | add_a_h | add_a_l | add_a_a | add_a_atHL | add_a_n | adc_a_b
      | adc_a_c | adc_a_d | adc_a_e | adc_a_h | adc_a_l | adc_a_a | adc_a_atHL | adc_a_n | sub_b | sub_c | sub_d
      | sub_e | sub_h | sub_l | sub_a | sub_atHL | sub_n | sbc_a_b | sbc_a_c | sbc_a_d | sbc_a_e | sbc_a_h | sbc_a_l
      | sbc_a_a | sbc_a_atHL | sbc_a_n | and_b | and_c | and_d | and_e | and_h | and_l | and_a | and_atHL | and_n
      | xor_b | xor_c | xor_d | xor_e | xor_h | xor_l | xor_a | xor_atHL | xor_n | or_b | or_c | or_d | or_e | or_h
      | or_l | or_a | or_atHL | or_n | cp_b | cp_c | cp_d | cp_e | cp_h | cp_l | cp_a | cp_atHL | cp_n =>
    exact ⟨_, .setF (.setReg .id), fun _ => rfl⟩
  case neg | rlca | rrca | rla | rra | srl_b | srl_c | srl_d | srl_e | srl_h | srl_l | srl_a =>
    exact ⟨_, .setF (.setReg .id), fun _ => rfl⟩
  case bit_0_b | bit_0_c | bit_0_d | bit_0_e | bit_0_h | bit_0_l | bit_0_a | bit_0_atHL | bit_1_b | bit_1_c
      | bit_1_d | bit_1_e | bit_1_h | bit_1_l | bit_1_a | bit_1_atHL | bit_2_b | bit_2_c | bit_2_d | bit_2_e
      | bit_2_h | bit_2_l | bit_2_a | bit_2_atHL | bit_3_b | bit_3_c | bit_3_d | bit_3_e | bit_3_h | bit_3_l
      | bit_3_a | bit_3_atHL | bit_4_b | bit_4_c | bit_4_d | bit_4_e | bit_4_h | bit_4_l | bit_4_a | bit_4_atHL
      | bit_5_b | bit_5_c | bit_5_d | bit_5_e | bit_5_h | bit_5_l | bit_5_a | bit_5_atHL | bit_6_b | bit_6_c
      | bit_6_d | bit_6_e | bit_6_h | bit_6_l | bit_6_a | bit_6_atHL | bit_7_b | bit_7_c | bit_7_d | bit_7_e
      | bit_7_h | bit_7_l | bit_7_a | bit_7_atHL =>
    exact ⟨_, .setF .id, fun _ => rfl⟩
  case ld_atHL_b | ld_atHL_c | ld_atHL_d | ld_atHL_e | ld_atHL_h | ld_atHL_l | ld_atHL_a | ld_atHL_n | ld_atBC_a
      | ld_atDE_a | ld_atNN_a | set_0_atHL | set_1_atHL | set_2_atHL | set_3_atHL | set_4_atHL | set_5_atHL
      | set_6_atHL | set_7_atHL | res_0_atHL | res_1_atHL | res_2_atHL | res_3_atHL | res_4_atHL | res_5_atHL
      | res_6_atHL | res_7_atHL =>
    exact ⟨_, .writeByte .id, fun _ => rfl⟩
  case srl_atHL =>
    exact ⟨_, .setF (.writeByte .id), fun _ => rfl⟩
  case ld_atNN_hl | ld_atNN_bc | ld_atNN_de | ld_atNN_sp =>
    exact ⟨_, .writeWord .id, fun _ => rfl⟩
  case ld_bc_nn | ld_de_nn | ld_hl_nn | ld_sp_nn | ld_ix_nn | ld_iy_nn | ld_hl_atNN | ld_bc_atNN | ld_de_atNN
      | ld_sp_atNN =>
    exact ⟨_, .setReg16 .id, fun _ => rfl⟩
  case ex_de_hl =>
    exact ⟨_, .setReg16 (.setReg16 .id), fun _ => rfl⟩
  case push_bc | push_de | push_hl | push_af | push_ix | push_iy =>
    exact ⟨_, .push16 .id, fun _ => rfl⟩
  case pop_bc | pop_de | pop_hl | pop_af | pop_ix | pop_iy =>
    exact ⟨_, .setReg16 (.dropTop .id), fun _ => rfl⟩
  case add_hl_bc | add_hl_de | add_hl_hl | add_hl_sp | add_ix_bc | add_ix_de | add_ix_ix | add_ix_sp | add_iy_bc
      | add_iy_de | add_iy_iy | add_iy_sp =>
    exact ⟨_, .settle (.setF (.setReg16 .id)), fun _ => rfl⟩
  case inc_b | inc_c | inc_d | inc_e | inc_h | inc_l | inc_a | dec_b | dec_c | dec_d | dec_e | dec_h | dec_l | dec_a
      | cpl =>
    exact ⟨_, .settle (.setF (.setReg .id)), fun _ => rfl⟩
  case inc_atHL | dec_atHL =>
    exact ⟨_, .settle (.setF (.writeByte .id)), fun _ => rfl⟩
  case inc_bc | inc_de | inc_hl | inc_sp | dec_bc | dec_de | dec_hl | dec_sp =>
    exact ⟨_, .settle (.setReg16 .id), fun _ => rfl⟩
  case scf | ccf =>
    exact ⟨_, .settle (.setF .id), fun _ => rfl⟩
  case jp_nn | jr_e =>
    exact ⟨_, .setPc .id, fun _ => rfl⟩
  case jp_nz_nn | jp_z_nn | jp_nc_nn | jp_c_nn | jr_nz_e | jr_z_e | jr_nc_e | jr_c_e =>
    exact ⟨_, .cond (.setPc .id) .id, fun _ => rfl⟩
  case djnz_e =>
    exact ⟨_, .cond (.setPc (.setReg .id)) (.setReg .id), fun _ => rfl⟩
  case call_nn | rst_00 | rst_08 | rst_10 | rst_18 | rst_20 | rst_28 | rst_30 | rst_38 =>
    exact ⟨_, .setPc (.push16 .id), fun _ => rfl⟩
  case call_nz_nn | call_z_nn | call_nc_nn | call_c_nn =>
    exact ⟨_, .cond (.setPc (.push16 .id)) .id, fun _ => rfl⟩
  case ret =>
    exact ⟨_, .setPc (.dropTop .id), fun _ => rfl⟩
  case ret_nz | ret_z | ret_nc | ret_c =>
    exact ⟨_, .cond (.setPc (.dropTop .id)) .id, fun _ => rfl⟩
  all_goals exact ⟨_, .setReg .id, fun _ => rfl⟩

/-! ### HALT -/

theorem toNat_wordAt (s : State) (a : Word) :
    (wordAt s a).toNat = (s.readByte a).toNat + 256 * (s.readByte (a + 1)).toNat := by
  have hlo := (s.readByte a).isLt
  have hhi := (s.readByte (a + 1)).isLt
  rw [wordAt, BitVec.toNat_ofNat]
  omega

/-- The last-key cell as a number (R441, R442). -/
theorem toNat_lastKey (s : State) : s.lastKey.toNat = cellValue s := by
  cases hwidth : s.cfg.keyWidth with
  | one =>
    have hlt := (s.readByte s.cfg.lastKeyAddr).isLt
    simp [State.lastKey, cellValue, hwidth, zext16]
    omega
  | two => simp [State.lastKey, cellValue, hwidth, readWord_eq, toNat_wordAt]

theorem haltStops_iff (s : State) : s.haltStops = true ↔ haltCondition s := by
  simp only [State.haltStops, haltCondition, Bool.and_eq_true, decide_eq_true_eq, ← toNat_lastKey, BitVec.toNat_inj,
    and_assoc]

/-- HALT where R442 stops the run. -/
theorem exec_halt_stops {s : State} (h : haltCondition s) :
    exec .halt s = .next { s with pc := s.pc - 1, status := .haltedNoKeys } :=
  if_pos ((haltStops_iff s).mpr h)

/-- The state after a frame tick: the head of the queue, or the no-key value, is consumed and is in the cell. -/
def afterTick (s : State) : State :=
  { s with queue := s.queue.tail }.setLastKey (s.queue.head?.getD s.cfg.noKeyValue)

/-- HALT where R442 does not stop the run: an empty queue has itself for its tail. -/
theorem exec_halt_ticks {s : State} (h : ¬haltCondition s) : exec .halt s = .next (afterTick s) := by
  refine (if_neg (mt (haltStops_iff s).mp h)).trans ?_
  unfold afterTick
  cases hqueue : s.queue with
  | cons v rest => rfl
  | nil =>
    have same : { s with queue := [] } = s := by rw [← hqueue]
    simp [same]

theorem setLastKey_withOutput (s : State) (v : Word) (lines : List (List Byte)) (part : List Byte) (n : Nat) :
    (s.withOutput lines part n).setLastKey v = (s.setLastKey v).withOutput lines part n := by
  cases hwidth : s.cfg.keyWidth <;> simp [State.setLastKey, State.withOutput, hwidth] <;> rfl

/-- The last-key cell after its write: one byte or two, and no other byte (R441). -/
theorem setLastKey_bytes (s : State) (v : Word) :
    ((s.setLastKey v).readByte s.cfg.lastKeyAddr).toNat = v.toNat % 256 ∧
    (s.cfg.keyWidth = .two → ((s.setLastKey v).readByte (s.cfg.lastKeyAddr + 1)).toNat = v.toNat / 256) ∧
    MemSameBut (match s.cfg.keyWidth with
      | .one => [s.cfg.lastKeyAddr]
      | .two => [s.cfg.lastKeyAddr, s.cfg.lastKeyAddr + 1]) s (s.setLastKey v) := by
  unfold State.setLastKey
  cases s.cfg.keyWidth with
  | one =>
    obtain ⟨-, -, -, -, hmem, -⟩ := onlyMem_writeByte s s.cfg.lastKeyAddr (loByte v)
    exact ⟨by simp [loByte], nofun, hmem⟩
  | two =>
    obtain ⟨hlo, hhi⟩ := wordAt_writeWord s s.cfg.lastKeyAddr v
    exact ⟨hlo, fun _ => hhi, memSameBut_writeWord s s.cfg.lastKeyAddr v⟩

/-! ### Every instruction -/

/-- What every instruction does to the state beside what it computes. -/
structure Effect (i : Instr) (s t : State) : Prop where
  pcSet : t.pcSet = s.pcSet
  output : t.lines = s.lines ∧ t.partialLine = s.partialLine
  queue : t.queue = s.queue ∨ i = .halt ∧ t.queue = s.queue.tail
  counter : t.counter = s.counter
  policy : t.haltPolicy = s.haltPolicy
  status : t.status = s.status ∨
    i = .halt ∧ haltCondition s ∧ t = { s with pc := s.pc - 1, status := .haltedNoKeys }
  cfg : t.cfg = s.cfg
  mem : s.mem.wf → t.mem.wf
  wide : ∀ r, mayWriteWide i r = false → t.reg16 r = s.reg16 r

theorem Keeps.effect {i : Instr} {s t : State} (h : Keeps i s t) : Effect i s t := by
  obtain ⟨⟨pcSet, lines, partialLine, queue, counter, policy, status, cfg⟩, mem, wide⟩ := h
  exact ⟨pcSet, ⟨lines, partialLine⟩, .inl queue, counter, policy, .inl status, cfg, mem, wide⟩

theorem effect_afterTick (s : State) : Effect .halt s (afterTick s) where
  pcSet := by simp [afterTick]
  output := by simp [afterTick]
  queue := .inr ⟨rfl, by simp [afterTick]⟩
  counter := by simp [afterTick]
  policy := by simp [afterTick]
  status := .inl (by simp [afterTick])
  cfg := by simp [afterTick]
  mem := fun hm => State.wf_setLastKey (s := { s with queue := s.queue.tail }) hm _
  wide := fun r hr => by obtain rfl | rfl := eq_of_mayWriteWide_false hr <;> simp [State.reg16, afterTick]

/-- Every instruction answers a next state (R515), with this effect. -/
theorem exec_effect (i : Instr) (s : State) : ∃ t, exec i s = .next t ∧ Effect i s t := by
  by_cases hi : i = .halt
  · subst hi
    by_cases hstop : haltCondition s
    · exact ⟨_, exec_halt_stops hstop, rfl, ⟨rfl, rfl⟩, .inl rfl, rfl, rfl, .inr ⟨rfl, hstop, rfl⟩, rfl, fun hm => hm,
        fun r hr => by obtain rfl | rfl := eq_of_mayWriteWide_false hr <;> rfl⟩
    · exact ⟨_, exec_halt_ticks hstop, effect_afterTick s⟩
  · obtain ⟨g, hg, hexec⟩ := exec_updates i hi
    exact ⟨g s, hexec s, (hg.keeps s).effect⟩

theorem effect_of_exec {i : Instr} {s t : State} (h : exec i s = .next t) : Effect i s t := by
  obtain ⟨u, hu, heffect⟩ := exec_effect i s
  cases hu.symm.trans h
  exact heffect

/-! ### The obligations -/

/-- Settles O13: every instruction has its effect, and its effect keeps the status but for HALT's own outcome. -/
theorem noInstructionTraps : Obligations.NoInstructionTraps := by
  intro i s
  obtain ⟨t, hnext, heffect⟩ := exec_effect i s
  refine ⟨t, hnext, heffect.status.imp_right ?_⟩
  rintro ⟨hi, -, rfl⟩
  exact ⟨hi, rfl⟩

/-- Settles O21: the effect of an instruction keeps the queue, but that HALT may drop the head. -/
theorem onlyHaltConsumesKeys : Obligations.OnlyHaltConsumesKeys := by
  intro i s t h
  have queue := (effect_of_exec h).queue
  exact ⟨fun hi => queue.resolve_right fun ⟨hhalt, _⟩ => hi hhalt, queue.imp_right fun ⟨_, htail⟩ => htail⟩

/-- Settles O22: every update that writes SP is of an instruction that R40 lists. -/
theorem onlyStackInstructionsWriteSp : Obligations.OnlyStackInstructionsWriteSp :=
  fun _ _ _ h hsp => (effect_of_exec h).wide .sp hsp

/-- Settles O24: an instruction is made of updates that are blind to both, and HALT's condition and tick are. -/
theorem outputAndCounterAreNotRead : Obligations.OutputAndCounterAreNotRead := by
  intro i s t lines part n h
  change exec i (s.withOutput lines part n) = .next (t.withOutput lines part n)
  by_cases hi : i = .halt
  · subst hi
    by_cases hstop : haltCondition s
    · cases (exec_halt_stops hstop).symm.trans h
      exact exec_halt_stops (s := s.withOutput lines part n) hstop
    · cases (exec_halt_ticks hstop).symm.trans h
      rw [exec_halt_ticks (s := s.withOutput lines part n) hstop]
      exact congrArg _ (setLastKey_withOutput { s with queue := s.queue.tail } _ lines part n)
  · obtain ⟨g, hg, hexec⟩ := exec_updates i hi
    cases (hexec s).symm.trans h
    rw [hexec, hg.withOutput]

/-- Settles O59: this is HALT's way under R442. -/
theorem haltWithNoKeysStops : Obligations.HaltWithNoKeysStops := fun _ h => exec_halt_stops h

/-- Settles O58: HALT's other way writes the cell and drops the head. -/
theorem haltIsAFrameTick : Obligations.HaltIsAFrameTick := by
  refine ⟨rfl, fun s h => ⟨afterTick s, exec_halt_ticks h, ?_⟩⟩
  obtain ⟨hlo, hhi, hmem⟩ := setLastKey_bytes { s with queue := s.queue.tail } (s.queue.head?.getD s.cfg.noKeyValue)
  refine ⟨by simp [afterTick], hlo, hhi, hmem, ?_⟩
  refine ⟨fun r _ => by cases r <;> simp [State.reg, afterTick], fun r hr _ => ?_, ?_⟩
  · cases r <;> simp [State.reg16, afterTick] at hr ⊢
  · simp [FlagsSame, afterTick]

end Sys2Proof.Machine
end

section
/-! What a step and a run can do (60_exceptions.md). `step_next_cases` names the six ways of a step (R501, R502); the
statements about steps are one case each of these ways, and the statements about runs are inductions over the steps. -/

namespace Sys2Proof.Machine

/-! ### The parts of a step -/

/-- The print service as a whole next state (R450 to R453). -/
theorem printService_eq (s : State) :
    printService s =
      { s with
        lines := if s.a = s.cfg.newlineCode then s.lines ++ [s.partialLine] else s.lines
        partialLine := if s.a = s.cfg.newlineCode then [] else s.partialLine ++ [s.a]
        pc := wordAt s s.sp
        sp := s.sp + 2 } := by
  unfold printService State.print
  by_cases h : s.a = s.cfg.newlineCode <;> simp only [h, if_true, if_false] <;>
    exact congrArg (State.setPc _) (readWord_eq s s.sp)

/-- The clear-screen service as a whole next state (R455, R456): the cells are written before PC is popped. -/
theorem clearScreen_eq (s : State) :
    clearScreen s =
      { s with
        lines := []
        partialLine := []
        mem := (s.clearOutput.writeCells s.cfg.clsInit).mem
        pc := wordAt (s.clearOutput.writeCells s.cfg.clsInit) s.sp
        sp := s.sp + 2 } := by
  have hsp : (s.clearOutput.writeCells s.cfg.clsInit).sp = s.sp := by
    rw [State.writeCells_eq]
    rfl
  have hpc : (s.clearOutput.writeCells s.cfg.clsInit).top16 = wordAt (s.clearOutput.writeCells s.cfg.clsInit) s.sp := by
    rw [State.top16, hsp, readWord_eq]
  rw [← hpc, clearScreen, State.writeCells_eq]
  rfl

/-- A step that ends the run before anything is executed. -/
def State.ended (s : State) (o : Status) : State := { s with counter := s.counter + 1, status := o }

/-- The ways a step can go, in the order of the checks (R501, R502), with the state each gives. -/
inductive StepsTo (s : State) : State → Prop
  | limit (hlimit : s.cfg.cycleLimit ≤ s.counter) : StepsTo s (s.ended (.cycleLimitExceeded (s.counter + 1)))
  | returned (hlimit : s.counter < s.cfg.cycleLimit) (hpc : s.pc = 0x0000) : StepsTo s (s.ended .returned)
  | print (hlimit : s.counter < s.cfg.cycleLimit) (hpc : s.pc = s.cfg.printAddr) : StepsTo s (printService s.tick)
  | clear (hlimit : s.counter < s.cfg.cycleLimit) (hpc : s.pc = s.cfg.clsAddr) : StepsTo s (clearScreen s.tick)
  | instr {i : Instr} {n : Nat} {t : State} (hlimit : s.counter < s.cfg.cycleLimit) (hfetch : s.fetch = .instr i n)
    (hexec : exec i (s.tick.advance n) = .next t) : StepsTo s t
  | undecodable {bytes : List Byte} (hlimit : s.counter < s.cfg.cycleLimit) (hfetch : s.fetch = .undecodable bytes) :
    StepsTo s (s.ended (.decodeError s.pc bytes))

theorem step_next_cases {s t : State} (h : step s = .next t) : s.canStep ∧ StepsTo s t := by
  obtain ⟨hok, hrun, hpc, hcheck | ⟨hnone, hfetch⟩⟩ := step_cases h
  · refine ⟨⟨hok, hrun, hpc⟩, ?_⟩
    obtain ⟨hlimit, rfl⟩ | ⟨hlimit, ⟨hz, rfl⟩ | ⟨hp, rfl⟩ | ⟨hc, rfl⟩⟩ := beforeDecode_cases hcheck
    · exact .limit (Nat.le_of_lt_succ hlimit)
    · exact .returned hlimit hz
    · exact .print hlimit hp
    · exact .clear hlimit hc
  · obtain ⟨hlimit, -, -, -⟩ := beforeDecode_none.mp hnone
    refine ⟨⟨hok, hrun, hpc⟩, ?_⟩
    obtain ⟨i, n, hf, hexec⟩ | ⟨bytes, hf, rfl⟩ := hfetch
    · exact .instr hlimit hf hexec
    · exact .undecodable hlimit hf

/-! ### What a step keeps -/

/-- Settles O14: each way of a step counts one, and no instruction writes the counter. -/
theorem everyStepCountsOne : Obligations.EveryStepCountsOne := by
  intro s t h
  obtain ⟨-, hsteps⟩ := step_next_cases h
  cases hsteps with
  | limit | returned | undecodable => exact ⟨rfl, rfl, rfl, rfl⟩
  | print => rw [printService_eq]; exact ⟨rfl, rfl, rfl, rfl⟩
  | clear => rw [clearScreen_eq]; exact ⟨rfl, rfl, rfl, rfl⟩
  | instr _ _ hexec =>
    obtain ⟨pcSet, -, -, counter, policy, -, cfg, -, -⟩ := effect_of_exec hexec
    exact ⟨counter, cfg, policy, pcSet⟩

/-- A step keeps the bound of the counter: only the limit's own outcome passes it (R501, R504, R512). -/
theorem counterBounded_step {s t : State} (hbound : s.counterBounded) (h : step s = .next t) : t.counterBounded := by
  obtain ⟨counter, cfg, -, -⟩ := everyStepCountsOne s t h
  obtain ⟨hle, hrunning⟩ := hbound
  obtain ⟨⟨-, hrun, -⟩, hsteps⟩ := step_next_cases h
  cases hsteps with
  | limit => exact ⟨Nat.succ_le_succ (hrunning hrun), nofun⟩
  | returned hlimit | print hlimit | clear hlimit | instr hlimit | undecodable hlimit =>
    unfold State.counterBounded
    rw [counter, cfg]
    exact ⟨by omega, fun _ => hlimit⟩

/-- The print service closes a line at the line terminator and appends every other byte (R451, R452). -/
theorem outputClean_print {s : State} (h : s.outputClean) : (s.print s.a).outputClean := by
  obtain ⟨hlines, hpart⟩ := h
  unfold State.print
  split
  case isTrue =>
    refine ⟨fun line hline => ?_, List.not_mem_nil⟩
    obtain hline | hline := List.mem_append.mp hline
    · exact hlines line hline
    · exact List.mem_singleton.mp hline ▸ hpart
  case isFalse hnl => exact ⟨hlines, by simpa [hpart] using Ne.symm hnl⟩

theorem Effect.keysFit {i : Instr} {s t : State} (h : Effect i s t) (hkeys : s.keysFit) : t.keysFit := by
  intro k hk
  rw [h.cfg]
  obtain hsame | ⟨-, htail⟩ := h.queue
  · exact hkeys k (hsame ▸ hk)
  · exact hkeys k (List.mem_of_mem_tail (htail ▸ hk))

theorem Effect.outputClean {i : Instr} {s t : State} (h : Effect i s t) (hclean : s.outputClean) : t.outputClean := by
  obtain ⟨hlines, hpart⟩ := h.output
  unfold State.outputClean
  rwa [h.cfg, hlines, hpart]

/-- Settles O16: each way of a step keeps each clause. -/
theorem everyStepKeepsInvariant : Obligations.EveryStepKeepsInvariant := by
  rintro s t ⟨mem, keys, output, bound⟩ h
  have bound' := counterBounded_step bound h
  obtain ⟨-, hsteps⟩ := step_next_cases h
  cases hsteps with
  | limit | returned | undecodable => exact ⟨mem, keys, output, bound'⟩
  | print =>
    refine ⟨?_, ?_, outputClean_print (s := s.tick) output, bound'⟩
    · simpa [printService] using mem
    · simpa [State.keysFit, printService] using keys
  | clear =>
    refine ⟨State.wf_writeCells (s := s.tick.clearOutput) mem _, ?_, ?_, bound'⟩
    · rw [clearScreen_eq]
      exact keys
    · rw [clearScreen_eq]
      exact ⟨nofun, List.not_mem_nil⟩
  | instr _ _ hexec =>
    have heffect := effect_of_exec hexec
    exact ⟨heffect.mem mem, heffect.keysFit keys, heffect.outputClean output, bound'⟩

/-- Settles O20: of the ways of a step, only the two services write the output. -/
theorem outputOnlyByEntryPoints : Obligations.OutputOnlyByEntryPoints := by
  intro s t h hprint hcls
  obtain ⟨-, hsteps⟩ := step_next_cases h
  cases hsteps with
  | limit | returned | undecodable => rfl
  | print _ hpc => exact absurd hpc hprint
  | clear _ hpc => exact absurd hpc hcls
  | instr _ _ hexec =>
    obtain ⟨hlines, hpart⟩ := (effect_of_exec hexec).output
    exact Prod.ext hlines hpart

/-- The byte of IY's page, where it is not admitted, is a decode error (R150). -/
theorem decode_iy_not_admitted {cfg : Config} (h : IdxReg.iy ∉ cfg.idxPrefixes) (b1 b2 b3 : Byte) :
    decode cfg 0xFD b1 b2 b3 = .undecodable [0xFD] := by
  simp [decode, Config.admitsIdx, h]
  rfl

/-- Settles O23: only an instruction of IY's page writes IY, and none is fetched where the page is not admitted. -/
theorem iyKeptWithoutItsPrefix : Obligations.IyKeptWithoutItsPrefix := by
  intro s t hiy h
  obtain ⟨-, hsteps⟩ := step_next_cases h
  cases hsteps with
  | limit | returned | undecodable => rfl
  | print => rw [printService_eq]; rfl
  | clear => rw [clearScreen_eq]; rfl
  | instr _ hfetch hexec =>
    refine (effect_of_exec hexec).wide .iy ?_
    rw [mayWriteWide, head?_encode_of_decode hfetch]
    refine beq_false_of_ne fun hfirst => ?_
    rw [State.fetch, Option.some.inj hfirst, decode_iy_not_admitted hiy] at hfetch
    cases hfetch

/-! ### Which way a step goes -/

theorem step_of_instr {s : State} {i : Instr} {n : Nat} (hs : s.canStep) (hcheck : s.tick.beforeDecode = none)
    (hfetch : s.tick.fetch = .instr i n) : step s = exec i (s.tick.advance n) := by
  obtain ⟨hok, hrunning, hpcSet⟩ := hs
  simp [step, hok, hrunning, hpcSet, hcheck, hfetch]

theorem step_of_undecodable {s : State} {bytes : List Byte} (hs : s.canStep) (hcheck : s.tick.beforeDecode = none)
    (hfetch : s.tick.fetch = .undecodable bytes) : step s = .next (s.ended (.decodeError s.pc bytes)) := by
  obtain ⟨hok, hrunning, hpcSet⟩ := hs
  simp only [step, hok, hrunning, hpcSet, hcheck, hfetch]
  rfl

/-- Every state that can step has a next state. -/
theorem step_total {s : State} (hs : s.canStep) : ∃ t, step s = .next t := by
  cases hcheck : s.tick.beforeDecode with
  | some t => exact ⟨t, step_of_beforeDecode hs hcheck⟩
  | none =>
    cases hfetch : s.tick.fetch with
    | instr i n =>
      obtain ⟨t, hexec, -⟩ := exec_effect i (s.tick.advance n)
      exact ⟨t, (step_of_instr hs hcheck hfetch).trans hexec⟩
    | undecodable bytes => exact ⟨_, step_of_undecodable hs hcheck hfetch⟩

/-- Settles O18: the outcome of each way that ends the run agrees with the state; the other ways go on. -/
theorem runsEndAsTheirOutcomeSays : Obligations.RunsEndAsTheirOutcomeSays := by
  intro s t hinv hs h
  have goesOn (hstatus : t.status = .running) : s.EndsWell t ∧
      (t.status ≠ .running → t = { s with counter := s.counter + 1, status := t.status }) :=
    ⟨by simp [State.EndsWell, hstatus], fun hne => absurd hstatus hne⟩
  obtain ⟨⟨-, hrun, -⟩, hsteps⟩ := step_next_cases h
  cases hsteps with
  | limit hlimit =>
    have hle : s.counter ≤ s.cfg.cycleLimit := hinv.counter.2 hrun
    exact ⟨⟨rfl, rfl, congrArg (· + 1) (Nat.le_antisymm hle hlimit)⟩, fun _ => rfl⟩
  | returned _ hpc => exact ⟨⟨rfl, hpc⟩, fun _ => rfl⟩
  | print => exact goesOn (by rw [printService_eq]; exact hrun)
  | clear => exact goesOn (by rw [clearScreen_eq]; exact hrun)
  | instr _ hfetch hexec =>
    obtain hsame | ⟨rfl, ⟨hpolicy, hqueue, hcell⟩, rfl⟩ := (effect_of_exec hexec).status
    · exact goesOn (hsame.trans hrun)
    · obtain ⟨-, rfl, -⟩ := decodedBytesAreTheEncoding _ _ _ _ _ _ _ hfetch
      have hpc : (s.tick.advance (encode .halt).length).pc - 1 = s.pc := BitVec.add_sub_cancel s.pc 1
      have hkey := BitVec.eq_of_toNat_eq ((toNat_lastKey s).trans hcell)
      exact ⟨⟨hpc, hpolicy, hqueue, hkey⟩, fun _ => by rw [hpc]; rfl⟩
  | undecodable _ hfetch =>
    have hbytes := decodeErrorReportsItsBytes _ _ _ _ _ _ hfetch
    split at hbytes
    · exact hbytes ▸ ⟨⟨rfl, rfl, .inr rfl, rfl⟩, fun _ => rfl⟩
    · exact hbytes ▸ ⟨⟨rfl, rfl, .inl rfl, rfl⟩, fun _ => rfl⟩

/-! ### Whole runs -/

/-- As many steps as the counter is short of passing the limit end the run (R504). -/
theorem runLoop_ends (k : Nat) (s : State) (hok : s.cfg.ok = true) (hpc : s.pcSet = true) (hbound : s.counterBounded)
    (hk : s.status = .running → s.cfg.cycleLimit < s.counter + k) :
    ∃ t, runLoop k s = .next t ∧ t.status ≠ .running ∧ t.counter ≤ s.cfg.cycleLimit + 1 ∧ t.cfg = s.cfg ∧
      t.haltPolicy = s.haltPolicy := by
  induction k generalizing s with
  | zero =>
    obtain ⟨hle, hrunning⟩ := hbound
    exact ⟨s, rfl, fun hrun => absurd (hrunning hrun) (by have := hk hrun; omega), hle, rfl, rfl⟩
  | succ k ih =>
    by_cases hrun : s.status = .running
    · obtain ⟨u, hu⟩ := step_total ⟨hok, hrun, hpc⟩
      obtain ⟨counter, cfg, policy, pcSet⟩ := everyStepCountsOne s u hu
      have hk' : u.status = .running → u.cfg.cycleLimit < u.counter + k := fun _ => by
        have := hk hrun
        rw [cfg, counter]
        omega
      obtain ⟨t, ht⟩ := ih u (cfg ▸ hok) (pcSet.trans hpc) (counterBounded_step hbound hu) hk'
      rw [cfg, policy] at ht
      exact ⟨t, by simpa [runLoop, hrun, hu] using ht⟩
    · exact ⟨s, by simp [runLoop, hrun], hrun, hbound.1, rfl, rfl⟩

/-- Settles O19: a run starts with the counter at 0 and has a step more than the limit. -/
theorem everyRunEnds : Obligations.EveryRunEnds := by
  intro s start haltPolicy hok
  exact runLoop_ends (s.cfg.cycleLimit + 1) (s.beginRun start haltPolicy) hok rfl
    ⟨Nat.zero_le _, fun _ => Nat.zero_le _⟩ fun _ => by simp [State.beginRun]

theorem inv_runLoop (k : Nat) {s t : State} (hinv : s.Inv) (h : runLoop k s = .next t) : t.Inv := by
  induction k generalizing s with
  | zero => cases h; exact hinv
  | succ k ih =>
    unfold runLoop at h
    split at h
    case isTrue =>
      split at h
      case h_1 u hu => exact ih (everyStepKeepsInvariant s u hinv hu) h
      all_goals cases h
    case isFalse => cases h; exact hinv

/-- An operation that writes registers, flags and memory alone keeps the invariant with the form of memory. -/
theorem inv_of_sideSame {s t : State} (hinv : s.Inv) (hside : SideSame s t) (hmem : t.mem.wf) : t.Inv := by
  obtain ⟨-, lines, partialLine, queue, counter, -, status, cfg⟩ := hside
  obtain ⟨-, keys, output, bound⟩ := hinv
  refine ⟨hmem, ?_, ?_, ?_⟩
  · unfold State.keysFit; rwa [queue, cfg]
  · unfold State.outputClean; rwa [lines, partialLine, cfg]
  · unfold State.counterBounded; rwa [counter, status, cfg]

theorem KeyWidth.bound_pos (w : KeyWidth) : 0 < w.bound := by
  cases w <;> decide

/-- A key code masked to the cell's width is a word (R533). -/
theorem toNat_key (w : KeyWidth) (v : Nat) : (BitVec.ofNat 16 (v % w.bound)).toNat = v % w.bound := by
  rw [BitVec.toNat_ofNat]
  cases w <;> simp only [KeyWidth.bound] <;> omega

theorem inv_appendKey {s : State} (hinv : s.Inv) (v : Nat) : (s.appendKey v).Inv := by
  refine ⟨hinv.mem, fun k hk => ?_, hinv.output, hinv.counter⟩
  obtain hk | hk := List.mem_append.mp hk
  · exact hinv.keys k hk
  · rw [List.mem_singleton.mp hk, toNat_key]
    exact Nat.mod_lt v (KeyWidth.bound_pos _)

theorem sideSame_writeBlock (s : State) (base : Word) (bytes : List Byte) : SideSame s (s.writeBlock base bytes) := by
  rw [State.writeBlock_eq]
  exact ⟨rfl, rfl, rfl, rfl, rfl, rfl, rfl, rfl⟩

/-- Settles O17: each operation keeps each clause, and a run keeps them step by step. -/
theorem hostOperationsKeepInvariant : Obligations.HostOperationsKeepInvariant := by
  intro op s t hinv h
  cases op with
  | load bytes base =>
    cases h
    exact inv_of_sideSame hinv (sideSame_writeBlock ..) (State.wf_writeBlock hinv.mem _ _)
  | pokeByte a v =>
    cases h
    obtain ⟨-, -, -, -, -, side⟩ := onlyMem_writeByte s (BitVec.ofNat 16 a) (BitVec.ofNat 8 v)
    exact inv_of_sideSame hinv side (State.wf_writeByte hinv.mem _ _)
  | pokeWord a v =>
    cases h
    obtain ⟨-, -, -, -, -, side⟩ := onlyMem_writeWord s (BitVec.ofNat 16 a) (BitVec.ofNat 16 v)
    exact inv_of_sideSame hinv side (State.wf_writeWord hinv.mem _ _)
  | writeReg r v =>
    cases h
    cases r with
    | r8 r | r16 r =>
      refine inv_of_sideSame hinv (by simp [SideSame, State.writeReg]) ?_
      simpa [State.writeReg] using hinv.mem
    | f | pc => exact ⟨hinv.mem, hinv.keys, hinv.output, hinv.counter⟩
  | writeFlag fl v => cases h; exact ⟨hinv.mem, hinv.keys, hinv.output, hinv.counter⟩
  | appendKey v => cases h; exact inv_appendKey hinv v
  | run start haltPolicy =>
    have hbegin : (s.beginRun start haltPolicy).Inv :=
      ⟨hinv.mem, hinv.keys, hinv.output, ⟨Nat.zero_le _, fun _ => Nat.zero_le _⟩⟩
    exact inv_runLoop (s.cfg.cycleLimit + 1) hbegin h

end Sys2Proof.Machine
end

section
/-! The steps outside the instructions' own effects, a fresh scenario, and the host's access (60_exceptions.md,
46_halt_host.md, 70_reset_and_hazards.md). -/

namespace Sys2Proof.Machine

/-! ### Steps that dispatch (R501, R510) -/

theorem beforeDecode_of_dispatches {s : State} (h : s.dispatches) : s.tick.beforeDecode = none := by
  obtain ⟨-, hlimit, hzero, hprint, hcls⟩ := h
  exact beforeDecode_none.mpr ⟨hlimit, hzero, hprint, hcls⟩

/-- Settles O7: no earlier check applies, so the step executes what it fetches. -/
theorem stepRunsTheDecodedInstruction : Obligations.StepRunsTheDecodedInstruction :=
  fun _ _ _ h hdecode => step_of_instr h.1 (beforeDecode_of_dispatches h) hdecode

/-- Settles O8: no earlier check applies, so the step ends with the bytes of the error. -/
theorem decodeErrorChangesNothingElse : Obligations.DecodeErrorChangesNothingElse :=
  fun _ _ h hdecode => step_of_undecodable h.1 (beforeDecode_of_dispatches h) hdecode

/-- Settles O12: the three stops are the first three tests of the step, and past them each way has a next state. -/
theorem stepStopsOnlyInTheseStates : Obligations.StepStopsOnlyInTheseStates := by
  intro s
  refine ⟨fun hok => if_pos hok, fun hok hstatus => ?ended, fun hok hrunning hpcSet => ?unset, step_total⟩
  case ended => simp [step, hok, hstatus]
  case unset => simp [step, hok, hrunning, hpcSet]

/-! ### The services (R450 to R456) -/

/-- The three addresses that a step looks for are different under an accepted configuration (R7). -/
theorem addresses_of_ok {cfg : Config} (h : cfg.ok = true) :
    cfg.printAddr ≠ 0 ∧ cfg.clsAddr ≠ 0 ∧ cfg.printAddr ≠ cfg.clsAddr := by
  simp only [Config.ok, Bool.and_eq_true, decide_eq_true_eq] at h
  tauto

theorem beforeDecode_of_pc_eq_printAddr {s : State} (hok : s.cfg.ok = true) (hlimit : s.counter ≤ s.cfg.cycleLimit)
    (hpc : s.pc = s.cfg.printAddr) : s.beforeDecode = some (printService s) := by
  obtain ⟨hprint, -, -⟩ := addresses_of_ok hok
  exact (if_neg hlimit.not_gt).trans <| (if_neg (hpc ▸ hprint)).trans (if_pos hpc)

theorem beforeDecode_of_pc_eq_clsAddr {s : State} (hok : s.cfg.ok = true) (hlimit : s.counter ≤ s.cfg.cycleLimit)
    (hpc : s.pc = s.cfg.clsAddr) : s.beforeDecode = some (clearScreen s) := by
  obtain ⟨-, hcls, hne⟩ := addresses_of_ok hok
  exact (if_neg hlimit.not_gt).trans <| (if_neg (hpc ▸ hcls)).trans <| (if_neg (hpc ▸ hne.symm)).trans (if_pos hpc)

/-- Settles O10: the step is the service on the state with the counter one higher. -/
theorem printServiceAtItsAddress : Obligations.PrintServiceAtItsAddress := by
  intro s hs hlimit hpc
  obtain ⟨hok, -, -⟩ := id hs
  rw [step_of_beforeDecode hs (beforeDecode_of_pc_eq_printAddr (s := s.tick) hok hlimit hpc), printService_eq]
  rfl

theorem readByte_writeCells_of_ne {ws : List (Word × Byte)} {a : Word} (h : ∀ c ∈ ws, c.1 ≠ a) (s : State) :
    (s.writeCells ws).readByte a = s.readByte a := by
  induction ws generalizing s with
  | nil => rfl
  | cons w ws ih =>
    obtain ⟨hw, hws⟩ := List.forall_mem_cons.mp h
    exact (ih hws _).trans (State.readByte_writeByte_ne s w.2 hw)

theorem readByte_writeCells_last {before after : List (Word × Byte)} {a : Word} {v : Byte} (h : ∀ c ∈ after, c.1 ≠ a)
    (s : State) : (s.writeCells (before ++ (a, v) :: after)).readByte a = v := by
  induction before generalizing s with
  | nil => exact (readByte_writeCells_of_ne h _).trans (State.readByte_writeByte_same s a v)
  | cons w before ih => exact ih _

/-- Settles O11: the step is the service; the last write to an address is the one that is read. -/
theorem clearScreenAtItsAddress : Obligations.ClearScreenAtItsAddress := by
  intro s hs hlimit hpc
  obtain ⟨hok, -, -⟩ := id hs
  refine ⟨_, step_of_beforeDecode hs (beforeDecode_of_pc_eq_clsAddr (s := s.tick) hok hlimit hpc), ?_⟩
  rw [clearScreen_eq]
  refine ⟨rfl, rfl, fun before a v after hcls hafter => ?written, fun a ha => ?others, rfl, rfl, ?frame⟩
  case written =>
    change (s.tick.clearOutput.writeCells s.cfg.clsInit).readByte a = v
    rw [hcls]
    exact readByte_writeCells_last hafter _
  case others => exact readByte_writeCells_of_ne ha s.tick.clearOutput
  case frame =>
    refine ⟨fun r _ => by cases r <;> rfl, fun r hr hne => ?_, ⟨rfl, rfl⟩, rfl, rfl, rfl, rfl, rfl, rfl⟩
    cases r <;> first | rfl | simp at hr hne

/-! ### A fresh scenario, fixed words, NOP -/

/-- Settles O15: a fresh scenario has no cell, no key, no output and no step behind it. -/
theorem invariantAtReset : Obligations.InvariantAtReset := by
  have fresh (cfg : Config) : (State.create cfg).Inv :=
    ⟨⟨List.Pairwise.nil, nofun⟩, nofun, ⟨nofun, List.not_mem_nil⟩, ⟨Nat.zero_le _, fun _ => Nat.zero_le _⟩⟩
  exact ⟨fresh, fresh Config.vectors⟩

/-- Settles O25: the fields of a fresh scenario. -/
theorem scenarioBaseline : Obligations.ScenarioBaseline := by
  exact fun _ => ⟨fun r => by cases r <;> rfl, rfl, rfl, rfl, rfl, rfl, fun _ => rfl, rfl, rfl, rfl, rfl, rfl⟩

/-- Settles O1: the five words, decoded. -/
theorem specWordsDecode : Obligations.SpecWordsDecode := by
  unfold Obligations.SpecWordsDecode
  decide

/-- Settles O32: NOP's encoding and meaning. -/
theorem nopChangesNothing : Obligations.NopChangesNothing := ⟨rfl, fun _ => rfl⟩

/-! ### load (R87, R531) -/

theorem add_ofNat_succ (base : Word) (k : Nat) : base + BitVec.ofNat 16 (k + 1) = base + 1 + BitVec.ofNat 16 k := by
  rw [Nat.add_comm, BitVec.ofNat_add, ← BitVec.add_assoc]
  rfl

theorem readByte_writeBlock_of_ne {bytes : List Byte} {base a : Word}
    (h : ∀ k < bytes.length, base + BitVec.ofNat 16 k ≠ a) (s : State) :
    (s.writeBlock base bytes).readByte a = s.readByte a := by
  induction bytes generalizing s base with
  | nil => rfl
  | cons v bytes ih =>
    have hhead : base ≠ a := by simpa using h 0 (Nat.succ_pos _)
    have htail : ∀ k < bytes.length, base + 1 + BitVec.ofNat 16 k ≠ a := fun k hk =>
      add_ofNat_succ base k ▸ h (k + 1) (Nat.succ_lt_succ hk)
    exact (ih htail _).trans (State.readByte_writeByte_ne s v hhead)

theorem readByte_writeBlock_getElem {bytes : List Byte} {base : Word} {k : Nat} {v : Byte} (hv : bytes[k]? = some v)
    (hlast : ∀ j, k < j → j < bytes.length → base + BitVec.ofNat 16 j ≠ base + BitVec.ofNat 16 k) (s : State) :
    (s.writeBlock base bytes).readByte (base + BitVec.ofNat 16 k) = v := by
  induction bytes generalizing s base k with
  | nil => cases hv
  | cons w bytes ih =>
    have hlater : ∀ j, k ≤ j → j < bytes.length → base + 1 + BitVec.ofNat 16 j ≠ base + BitVec.ofNat 16 k :=
      fun j hj hlen => add_ofNat_succ base j ▸ hlast (j + 1) (Nat.lt_succ_of_le hj) (Nat.succ_lt_succ hlen)
    cases k with
    | zero =>
      cases hv
      refine (readByte_writeBlock_of_ne (fun j hj => hlater j (Nat.zero_le j) hj) _).trans ?_
      rw [BitVec.add_zero, State.readByte_writeByte_same]
    | succ k =>
      rw [add_ofNat_succ] at hlater ⊢
      exact ih hv (fun j hj => hlater j hj) _

theorem ofNat_ne_of_mod_ne {x y : Nat} (h : x % 65536 ≠ y % 65536) : BitVec.ofNat 16 x ≠ BitVec.ofNat 16 y :=
  fun e => h (by simpa using congrArg BitVec.toNat e)

/-- Settles O26: the block is written byte by byte, so the last write to an address is the one that is read. -/
theorem loadWritesTheBlock : Obligations.LoadWritesTheBlock := by
  refine fun s bytes base => ⟨fun k v hv hlast => ?inside, fun a ha => ?outside, State.writeBlock_eq bytes _ s⟩
  case inside =>
    rw [State.peekByte, BitVec.ofNat_add]
    refine readByte_writeBlock_getElem hv (fun j hj hlen => ?_) s
    rw [← BitVec.ofNat_add, ← BitVec.ofNat_add]
    exact ofNat_ne_of_mod_ne (hlast j hj hlen)
  case outside =>
    refine readByte_writeBlock_of_ne (fun k hk => ?_) s
    rw [← BitVec.ofNat_add]
    exact ofNat_ne_of_mod_ne (ha k hk)

/-! ### The canonical form of memory (log entry 12) -/

/-- In canonical form the cells are the addresses that do not read as blank. -/
theorem Memory.mem_iff_read {m : Memory} (h : m.wf) (k : Nat) (v : Byte) :
    (k, v) ∈ m ↔ v ≠ Memory.blank ∧ m.read k = v := by
  obtain ⟨hsorted, hcells⟩ := h
  induction m with
  | nil => simp [Memory.read, eq_comm]
  | cons c m ih =>
    obtain ⟨a, w⟩ := c
    obtain ⟨hhead, hsorted⟩ := List.pairwise_cons.mp hsorted
    obtain ⟨⟨-, hblank⟩, hcells⟩ := List.forall_mem_cons.mp hcells
    by_cases hak : a = k
    · subst hak
      have htail : (a, v) ∉ m := fun hv => absurd (hhead _ hv) (Nat.lt_irrefl a)
      have hread : Memory.read ((a, w) :: m) a = w := by simp [Memory.read]
      rw [hread, List.mem_cons, or_iff_left htail, Prod.mk.injEq]
      exact ⟨fun e => ⟨e.2 ▸ hblank, e.2.symm⟩, fun e => ⟨rfl, e.2.symm⟩⟩
    · simp [Memory.read, hak, Ne.symm hak, ih hsorted hcells]

/-- In canonical form the cells are in strict order of their addresses, so the same cells are the same list. -/
theorem Memory.eq_of_mem_iff {m n : Memory} (hm : m.wf) (hn : n.wf) (h : ∀ c, c ∈ m ↔ c ∈ n) : m = n := by
  obtain ⟨hm, -⟩ := hm
  obtain ⟨hn, -⟩ := hn
  have nodup {l : Memory} (hl : l.Pairwise fun c d => c.1 < d.1) : l.Nodup := hl.imp fun hlt => by grind
  exact ((List.perm_ext_iff_of_nodup (nodup hm) (nodup hn)).mpr h).eq_of_pairwise
    (fun c d _ _ hcd hdc => absurd hcd hdc.asymm) hm hn

/-- Settles O28: the cells of a memory in canonical form are fixed by what it reads. -/
theorem canonicalMemoryIsUnique : Obligations.CanonicalMemoryIsUnique := by
  refine fun m n hm hn hread => Memory.eq_of_mem_iff hm hn fun ⟨k, v⟩ => ?_
  have hlt {l : Memory} (hl : l.wf) (hkv : (k, v) ∈ l) : k < 65536 := (hl.2 _ hkv).1
  constructor
  · intro h
    have := hread k (hlt hm h)
    rwa [Memory.mem_iff_read hn, ← this, ← Memory.mem_iff_read hm]
  · intro h
    have := hread k (hlt hn h)
    rwa [Memory.mem_iff_read hm, this, ← Memory.mem_iff_read hn]

/-! ### Host access (R530, R533) -/

theorem toNat_wordOf (h l : Byte) : (wordOf h l).toNat = h.toNat * 256 + l.toNat := by
  rw [wordOf, BitVec.toNat_ofNat]
  omega

/-- Settles O27: a register written is the register read, and the bit a flag is written to is its own. -/
theorem hostAccess : Obligations.HostAccess := by
  intro s v
  refine ⟨fun r => ?reg, rfl, fun r => ?wide, rfl, ?bc, ?de, ?hl, ?af, fun fl b => ⟨?flag, fun k hk hne => ?bits, rfl⟩,
    fun h => if_neg (by simp [h]), ?key⟩
  case reg =>
    rw [State.writeReg, State.readReg, State.reg_setReg_same, BitVec.toNat_ofNat]
  case wide =>
    rw [State.writeReg, State.readReg, State.reg16_setReg16_same, BitVec.toNat_ofNat]
  case bc => exact congrArg some (toNat_wordOf s.b s.c)
  case de => exact congrArg some (toNat_wordOf s.d s.e)
  case hl => exact congrArg some (toNat_wordOf s.h s.l)
  case af => exact congrArg some (toNat_wordOf s.a s.f)
  case flag => exact getFlag_setFlag_same s.f fl b
  case bits => exact (getLsbD_setFlag s.f fl b k hk).trans (if_neg (by cases fl <;> exact hne))
  case key => exact ⟨_, (toNat_key s.cfg.keyWidth v).trans (by cases s.cfg.keyWidth <;> rfl), rfl⟩

end Sys2Proof.Machine
end

section
/-! 8-bit policies and NEG, 16-bit add, increment and decrement, carry and complement (41_arith_logic.md,
44_prefix_ed.md, 45_prefix_index.md): the obligations that are left of them. -/

namespace Sys2Proof.Machine

/-! ### The additive and the subtractive policy, and NEG (R261, R262, R267, R390) -/

/-- What the policies test under the mask 0x80 is bit 7. -/
theorem and_0x80_ne_zero (x : Byte) : decide (x &&& 0x80 ≠ 0) = x.getLsbD 7 := getFlag_eq_bit x .s

theorem toNat_and_0x0F (x : Byte) : (x &&& 0x0F).toNat = x.toNat % 16 :=
  (BitVec.toNat_and x 0x0F).trans (Nat.and_two_pow_sub_one_eq_mod x.toNat 4)

/-- Bit 7 is the sign of a byte read as a two's complement number. -/
theorem toInt_eq_sub_bit7 (x : Byte) : x.toInt = x.toNat - 256 * (x.getLsbD 7).toNat := by
  revert x
  decide

/-- The signed sum overflows exactly when the operands have one sign and the result has the other. -/
theorem add8_overflow (a b : Byte) (cin : Bool) :
    let u := a.toNat + b.toNat + cin.toNat
    decide (((a ^^^ b ^^^ 0x80) &&& (a ^^^ BitVec.ofNat 8 u)) &&& 0x80 ≠ 0) =
      decide (a.toInt + b.toInt + cin.toNat < -128 ∨ 127 < a.toInt + b.toInt + cin.toNat) := by
  intro u
  have ha := a.isLt
  have hb := b.isLt
  have hc := cin.toNat_le
  have hr : (BitVec.ofNat 8 u).getLsbD 7 = decide (128 ≤ u % 256) := signBit_eq _
  rw [and_0x80_ne_zero, Bool.eq_iff_iff, toInt_eq_sub_bit7, toInt_eq_sub_bit7]
  simp only [BitVec.getLsbD_and, BitVec.getLsbD_xor, hr, show a.getLsbD 7 = decide _ from signBit_eq a,
    show b.getLsbD 7 = decide _ from signBit_eq b]
  by_cases ha' : 128 ≤ a.toNat <;> by_cases hb' : 128 ≤ b.toNat <;> simp [ha', hb', u] <;> omega

/-- The signed difference overflows exactly when the operands have different signs and the result has not A's. -/
theorem sub8_overflow (a b : Byte) (cin : Bool) :
    let u : Int := a.toNat - b.toNat - cin.toNat
    decide (((a ^^^ b) &&& (a ^^^ BitVec.ofInt 8 u)) &&& 0x80 ≠ 0) =
      decide (a.toInt - b.toInt - cin.toNat < -128 ∨ 127 < a.toInt - b.toInt - cin.toNat) := by
  intro u
  have ha := a.isLt
  have hb := b.isLt
  have hc := cin.toNat_le
  have hr : (BitVec.ofInt 8 u).getLsbD 7 = decide (128 ≤ u % 256) :=
    (signBit_eq _).trans (decide_eq_decide.mpr (by simp; omega))
  rw [and_0x80_ne_zero, Bool.eq_iff_iff, toInt_eq_sub_bit7, toInt_eq_sub_bit7]
  simp only [BitVec.getLsbD_and, BitVec.getLsbD_xor, hr, show a.getLsbD 7 = decide _ from signBit_eq a,
    show b.getLsbD 7 = decide _ from signBit_eq b]
  by_cases ha' : 128 ≤ a.toNat <;> by_cases hb' : 128 ≤ b.toNat <;> simp [ha', hb', u] <;> omega

/-- A byte is zero when its number is. -/
theorem decide_eq_zero (r : Byte) : decide (r = 0) = decide (r.toNat = 0) :=
  decide_eq_decide.mpr BitVec.toNat_inj.symm

/-- Settles O30: the policy builds F from its six flags, which are the stated ones, P/V by `add8_overflow`. -/
theorem additiveFlagsAreExact : Obligations.AdditiveFlagsAreExact := by
  intro a b cin u
  have hr : (BitVec.ofNat 8 u).toNat = u % 256 := BitVec.toNat_ofNat u 8
  refine ⟨hr, ?_⟩
  rw [← add8_overflow a b cin, ← hr, ← signBit_eq, ← toNat_and_0x0F, ← toNat_and_0x0F, ← decide_eq_zero]
  exact flagBits_wholesale ..

/-- Settles O31: the policy builds F from its six flags, which are the stated ones, P/V by `sub8_overflow`. -/
theorem subtractiveFlagsAreExact : Obligations.SubtractiveFlagsAreExact := by
  intro a b cin u
  have hr : ((BitVec.ofInt 8 u).toNat : Int) = u % 256 := by simp; omega
  refine ⟨hr, ?_⟩
  have hs : decide (128 ≤ u % 256) = signBit (BitVec.ofInt 8 u) := by
    rw [signBit_eq, ← hr]
    exact decide_eq_decide.mpr (by omega)
  have hz : decide (u % 256 = 0) = decide (BitVec.ofInt 8 u = 0) := by
    rw [decide_eq_zero, ← hr]
    exact decide_eq_decide.mpr (by omega)
  rw [← sub8_overflow a b cin, hs, hz, ← toNat_and_0x0F, ← toNat_and_0x0F]
  exact flagBits_wholesale ..

/-- The subtractive policy of 0 and a byte: its negation, and the flags that the spec derives (R390). -/
theorem sub8_zero (a : Byte) : (sub8 0 a false).1.toNat = (256 - a.toNat) % 256 ∧
    FlagBits (sub8 0 a false).2 (decide (128 ≤ (sub8 0 a false).1.toNat)) (decide (a = 0x00)) false
      (decide (a.toNat % 16 ≠ 0)) false (decide (a = 0x80)) true (decide (a ≠ 0x00)) := by
  unfold FlagBits
  revert a
  decide

/-- Settles O43: NEG is the subtractive policy of 0 and A. -/
theorem negSubtractsFromZero : Obligations.NegSubtractsFromZero := by
  refine ⟨rfl, fun s => ?_⟩
  obtain ⟨t, hnext, hresult, hframe⟩ := negateA_spec s
  obtain ⟨hvalue, hflags⟩ := hresult ▸ sub8_zero s.a
  exact ⟨t, hnext, hvalue, hflags, hframe⟩

/-! ### 16-bit add, increment and decrement (R295, R300 to R305, R423): the forms by operand -/

theorem addWideForms_row {i : Instr} {dst src : Reg16} {op : List Byte} (h : (i, dst, src, op) ∈ addWideForms) :
    dst ≠ .af ∧ encode i = op ∧ ∀ s, exec i s = addInto dst src s := by
  fin_cases h <;> exact ⟨nofun, rfl, fun _ => rfl⟩

theorem incRegForms_row {i : Instr} {r : Reg8} (h : (i, r) ∈ incRegForms) :
    encode i = [BitVec.ofNat 8 (0x04 + 8 * selectorOf r)] ∧ ∀ s, exec i s = incReg r s := by
  fin_cases h <;> exact ⟨rfl, fun _ => rfl⟩

theorem decRegForms_row {i : Instr} {r : Reg8} (h : (i, r) ∈ decRegForms) :
    encode i = [BitVec.ofNat 8 (0x05 + 8 * selectorOf r)] ∧ ∀ s, exec i s = decReg r s := by
  fin_cases h <;> exact ⟨rfl, fun _ => rfl⟩

theorem incWideForms_row {i : Instr} {r : Reg16} {b : Byte} (h : (i, r, b) ∈ incWideForms) :
    r ≠ .af ∧ encode i = [b] ∧ ∀ s, exec i s = incReg16 r s := by
  fin_cases h <;> exact ⟨nofun, rfl, fun _ => rfl⟩

theorem decWideForms_row {i : Instr} {r : Reg16} {b : Byte} (h : (i, r, b) ∈ decWideForms) :
    r ≠ .af ∧ encode i = [b] ∧ ∀ s, exec i s = decReg16 r s := by
  fin_cases h <;> exact ⟨nofun, rfl, fun _ => rfl⟩

/-- Taking 1 off is adding 255, modulo 256. -/
theorem toNat_sub_one_byte (v : Byte) : (v - 1).toNat = (v.toNat + 255) % 256 := by bv_omega

theorem toNat_sub_one_word (v : Word) : (v - 1).toNat = (v.toNat + 65535) % 65536 := by bv_omega

/-- Settles O44: every form is `addInto` on its registers, and its flags are the 16-bit additive rule's. -/
theorem wideAddWritesSumAndFlags : Obligations.WideAddWritesSumAndFlags := by
  intro i dst src op h
  obtain ⟨hdst, henc, hexec⟩ := addWideForms_row h
  refine ⟨henc, fun s => ?_⟩
  obtain ⟨t, hnext, hvalue, hframe⟩ := addInto_spec dst src s hdst
  exact ⟨t, _, (hexec s).trans hnext, (congrArg _ hvalue).trans (BitVec.toNat_ofNat _ 16), flagBits_add16 .., hframe⟩

/-- The flags of an increment are the sign/zero-only policy's (R264, R300). -/
theorem flagBits_incFlags (f r : Byte) :
    FlagBits (incFlags f r) (decide (128 ≤ r.toNat)) (decide (r = 0)) (f.getLsbD 5) (f.getLsbD 4) (f.getLsbD 3)
      (f.getLsbD 2) (f.getLsbD 1) (f.getLsbD 0) :=
  signBit_eq r ▸ flagBits_sz8 f r

theorem flagBits_decFlags (f r : Byte) :
    FlagBits (decFlags f r) (decide (128 ≤ r.toNat)) (decide (r = 0)) (f.getLsbD 5) (f.getLsbD 4) (f.getLsbD 3)
      (f.getLsbD 2) true (f.getLsbD 0) := by
  rw [← signBit_eq]
  simp only [FlagBits, decFlags, sz8, bit_setFlag, reduceCtorEq, if_true, if_false, and_self]

/-- Settles O45: each form is `incReg` or `incMem`, whose flags are the sign/zero-only policy's. -/
theorem incrementByte : Obligations.IncrementByte := by
  refine ⟨fun i r h => ?register, rfl, fun s => ?memory⟩
  case register =>
    obtain ⟨henc, hexec⟩ := incRegForms_row h
    refine ⟨henc, fun s => ?_⟩
    obtain ⟨t, hnext, hvalue, hframe⟩ := incReg_spec r s
    exact ⟨t, _, (hexec s).trans hnext, hvalue ▸ BitVec.toNat_add _ 1, hvalue ▸ flagBits_incFlags .., hframe⟩
  case memory =>
    obtain ⟨t, hnext, hvalue, hframe⟩ := incMem_spec s
    exact ⟨t, _, hnext, (congrArg _ hvalue).trans (BitVec.toNat_add _ 1), hvalue ▸ flagBits_incFlags .., hframe⟩

/-- Settles O46: each form is `decReg` or `decMem`, whose flags are the sign/zero-only policy's with N set. -/
theorem decrementByte : Obligations.DecrementByte := by
  refine ⟨fun i r h => ?register, rfl, fun s => ?memory⟩
  case register =>
    obtain ⟨henc, hexec⟩ := decRegForms_row h
    refine ⟨henc, fun s => ?_⟩
    obtain ⟨t, hnext, hvalue, hframe⟩ := decReg_spec r s
    exact ⟨t, _, (hexec s).trans hnext, hvalue ▸ toNat_sub_one_byte _, hvalue ▸ flagBits_decFlags .., hframe⟩
  case memory =>
    obtain ⟨t, hnext, hvalue, hframe⟩ := decMem_spec s
    exact ⟨t, _, hnext, (congrArg _ hvalue).trans (toNat_sub_one_byte _), hvalue ▸ flagBits_decFlags .., hframe⟩

/-- Settles O47: each form is `incReg16` or `decReg16` on its register. -/
theorem stepWideRegister : Obligations.StepWideRegister := by
  refine ⟨fun i r b h => ?inc, fun i r b h => ?dec⟩
  case inc =>
    obtain ⟨hr, henc, hexec⟩ := incWideForms_row h
    refine ⟨henc, fun s => ?_⟩
    obtain ⟨t, hnext, hvalue, hframe⟩ := incReg16_spec r s hr
    exact ⟨t, (hexec s).trans hnext, (congrArg _ hvalue).trans (BitVec.toNat_add _ 1), hframe⟩
  case dec =>
    obtain ⟨hr, henc, hexec⟩ := decWideForms_row h
    refine ⟨henc, fun s => ?_⟩
    obtain ⟨t, hnext, hvalue, hframe⟩ := decReg16_spec r s hr
    exact ⟨t, (hexec s).trans hnext, (congrArg _ hvalue).trans (toNat_sub_one_word _), hframe⟩

/-! ### Carry and complement (R320 to R322) -/

/-- The flag byte of CPL (R322). -/
theorem flagBits_setFlag_h_n (f : Byte) (h n : Bool) :
    FlagBits (setFlag (setFlag f .h h) .n n) (f.getLsbD 7) (f.getLsbD 6) (f.getLsbD 5) h (f.getLsbD 3) (f.getLsbD 2) n
      (f.getLsbD 0) := by
  simp only [FlagBits, bit_setFlag, reduceCtorEq, if_true, if_false, and_self]

/-- The flag byte of SCF and CCF (R320, R321). -/
theorem flagBits_setFlag_c_h_n (f : Byte) (c h n : Bool) :
    FlagBits (setFlag (setFlag (setFlag f .c c) .h h) .n n) (f.getLsbD 7) (f.getLsbD 6) (f.getLsbD 5) h (f.getLsbD 3)
      (f.getLsbD 2) n c := by
  simp only [FlagBits, bit_setFlag, reduceCtorEq, if_true, if_false, and_self]

/-- A write of F alone, some bits of which are then unsettled. -/
theorem setF_settle_frame (s : State) (f m : Byte) :
    Unsettled m f s ((s.setF f).settle m) ∧ RegsSame [] s ((s.setF f).settle m) ∧ WideSame [] s ((s.setF f).settle m) ∧
      ((s.setF f).settle m).pc = s.pc ∧ MemSameBut [] s ((s.setF f).settle m) ∧ SideSame s ((s.setF f).settle m) := by
  obtain ⟨t, rfl, -, hunsettled, -, hframe⟩ := setReg_setF_settle_frame s .a s.a f m
  exact ⟨hunsettled, fun r _ => (settle_reg _ m r).trans (by cases r <;> rfl), hframe⟩

/-- Settles O49: the three flags, or the two, are written one after the other, and the mask is then unsettled. -/
theorem carryAndComplement : Obligations.CarryAndComplement := by
  refine ⟨rfl, rfl, rfl, fun s => ⟨⟨_, _, rfl, ?scf, setF_settle_frame s _ _⟩,
    ⟨_, _, rfl, ?ccf, setF_settle_frame s _ _⟩, ?cpl⟩⟩
  case scf => exact flagBits_setFlag_c_h_n ..
  case ccf =>
    rw [State.flag, getFlag_eq_bit]
    exact flagBits_setFlag_c_h_n ..
  case cpl =>
    obtain ⟨t, rfl, hvalue, hframe⟩ :=
      setReg_setF_settle_frame s .a (~~~s.a) (setFlag (setFlag s.f .h true) .n true) unsettledCarry
    exact ⟨_, _, rfl, (congrArg _ hvalue).trans BitVec.toNat_not, flagBits_setFlag_h_n .., hframe⟩

end Sys2Proof.Machine
end

section
/-! POP, relative jumps, DJNZ and the indexed loads (40_loads_stack.md, 42_control.md, 45_prefix_index.md). -/

namespace Sys2Proof.Machine

/-- POP qq, POP AF, POP XY (R234, R236, R413): none of them pops into SP. -/
theorem popForms_row {i : Instr} {r : Reg16} {op : List Byte} (h : (i, r, op) ∈ popForms) :
    r ≠ .sp ∧ encode i = op ∧ ∀ s, exec i s = popReg16 r s := by
  fin_cases h <;> exact ⟨nofun, rfl, fun _ => rfl⟩

/-- Settles O38: each form is `popReg16` on its register. -/
theorem popLoadsTheRegister : Obligations.PopLoadsTheRegister := by
  intro i r op h
  obtain ⟨hr, henc, hexec⟩ := popForms_row h
  exact ⟨henc, fun s => hexec s ▸ popReg16_spec r s hr⟩

/-! ### Signed displacements: relative jumps, DJNZ and the indexed loads (R330 to R336, R410, R414) -/

/-- A word plus a signed byte, as integers modulo 65536 (R92, R330). -/
theorem add_sext8 (a : Word) (d : Byte) : a + sext8 d = BitVec.ofInt 16 (a.toNat + d.toInt) := by
  rw [BitVec.ofInt_add, sext8, BitVec.signExtend]
  simp

/-- JR cc,e (R335). -/
theorem jrIfForms_row {i : Byte → Instr} {cc : Cond} {b : Byte} (h : (i, cc, b) ∈ jrIfForms) (e : Byte) :
    encode (i e) = [b, e] ∧ ∀ s, exec (i e) s = jumpIf cc (s.relTarget e) s := by
  fin_cases h <;> exact ⟨rfl, fun _ => rfl⟩

/-- DJNZ counts B down and jumps, to the relative target or to where PC is (R336). -/
theorem djnz_spec (e : Byte) (s : State) :
    exec (.djnz_e e) s = .next ((s.setReg .b (s.b - 1)).setPc (if s.b = 1 then s.pc else s.relTarget e)) := by
  have hzero : (s.setReg .b (s.b - 1)).b ≠ 0 ↔ s.b ≠ 1 := sub_ne_zero
  change decrementAndJump e s = _
  rw [decrementAndJump]
  by_cases h : s.b = 1
  · rw [if_neg (not_not.mpr h ∘ hzero.mp), if_pos h]
    rfl
  · rw [if_pos (hzero.mpr h), if_neg h]
    rfl

/-- Settles O51: each form is a jump to the relative target, or to where PC is; DJNZ's counts B down before. -/
theorem relativeJumpsAndDjnz : Obligations.RelativeJumpsAndDjnz := by
  refine ⟨fun e => ⟨rfl, fun s => ?jr⟩, fun i cc b h e => ?jrIf, fun e => ⟨rfl, fun s => ?djnz⟩⟩
  case jr => exact add_sext8 s.pc e ▸ jump_spec (s.relTarget e) s
  case jrIf =>
    obtain ⟨henc, hexec⟩ := jrIfForms_row h e
    refine ⟨henc, fun s => ?_⟩
    rw [hexec, jumpIf_eq_jump, ← add_sext8]
    exact jump_spec _ s
  case djnz =>
    rw [djnz_spec, ← add_sext8]
    obtain ⟨hregs, hwide, hflags, -, hmem, hside⟩ := onlyRegs_setReg s .b (s.b - 1)
    refine ⟨_, rfl, toNat_sub_one_byte s.b, rfl, fun r hr => ?_, fun r hw hr => ?_, hflags, hmem, hside⟩
    · rw [← hregs r hr]
      cases r <;> rfl
    · rw [← hwide r hw hr]
      cases r <;> rfl

/-- LD r,(XY+d) (R414): admitted by its page and its register (D15, D16). -/
theorem ldIdxForms_row {i : Byte → Instr} {xy : IdxReg} {r : Reg8} (h : (i, xy, r) ∈ ldIdxForms) (d : Byte) :
    encode (i d) = [prefixOf xy, BitVec.ofNat 8 (0x46 + 8 * selectorOf r), d] ∧
      (∀ cfg, (i d).wf cfg = cfg.admitsIdxLoad xy r) ∧
      ∀ s, exec (i d) s = loadReg r (s.readByte (s.idxAddr xy d)) s := by
  fin_cases h <;> exact ⟨rfl, fun _ => rfl, fun _ => rfl⟩

/-- Settles O57: each form loads from the index address, and its row round-trips where it is admitted. -/
theorem ldRegisterIndexed : Obligations.LdRegisterIndexed := by
  intro i xy r h d
  obtain ⟨henc, hwf, hexec⟩ := ldIdxForms_row h d
  refine ⟨henc, fun cfg hxy => ?decode, fun s => ?effect⟩
  case decode =>
    have hprefix : cfg.admitsIdx xy = true := decide_eq_true hxy
    have trip := roundTrips cfg (i d) []
    rw [List.append_nil, hwf, Config.admitsIdxLoad, errorLength_prefixOf (by rw [henc]; rfl), hprefix, Bool.true_and,
      henc] at trip
    rw [henc]
    exact trip.trans (if_congr decide_eq_true_iff rfl rfl)
  case effect =>
    obtain ⟨t, hnext, hvalue, hframe⟩ := loadReg_spec r (s.readByte (s.idxAddr xy d)) s
    exact ⟨t, (hexec s).trans hnext, hvalue.trans (congrArg s.readByte (by cases xy <;> exact add_sext8 _ d)), hframe⟩

end Sys2Proof.Machine
end
